-- ==== Sys2Proof/Word.lean ====
section
/-! DEFINITION. The machine's words: bytes of the serial links, part time and zone-clock values, and the plainest arithmetic on them. -/

namespace Sys2Proof

/-- A byte of a console or winch frame (R158, R192). -/
abbrev Byte := BitVec 8

/-- A part-time value in ms: 32 bits, wrapping (R74). -/
abbrev PartTime := BitVec 32

/-- A zone-clock value in ds: 32 bits, wrapping (R74, R76). -/
abbrev ClockValue := BitVec 32

/-- The reuse count of a zone or cue slot: 0..255, wrapping (R18, R87). -/
abbrev Generation := BitVec 8

/-- A handle of one of the 48 zone slots (R16). -/
abbrev ZoneHandle := Fin 48

/-- A handle of one of the 32 cue slots (R86). -/
abbrev CueHandle := Fin 32

/-- A winch: index 0..3 stands for winch number 1..4 (R1). -/
abbrev Winch := Fin 4

/-- A point, an offset or a velocity: three signed whole numbers (in mm, µm or µm/s as its user says). -/
structure Vec3 where
  x : Int
  y : Int
  z : Int
deriving DecidableEq, Repr

/-- Six bounds (R3); in whole mm for zone boxes, in µm for envelopes. -/
structure Box where
  xlo : Int
  xhi : Int
  ylo : Int
  yhi : Int
  zlo : Int
  zhi : Int
deriving DecidableEq, Repr

/-- The milliseconds from `now` to `due`, 0 where `due` lies in the past half of the 32-bit circle (R74, R114: timers measure
their time across the wrap; log 25). -/
def remainingMs (due now : PartTime) : Nat :=
  if (due - now).toNat < 2147483648 then (due - now).toNat else 0

end Sys2Proof
end

