-- ==== Sys2Proof/Syntax.lean ====
section
/-! DEFINITION. The commands of the part: one constructor per row of spec/opcode_table.json, with the operands the event carries. -/

namespace Sys2Proof

/-- The three console ports, and so the three roles (R191). -/
inductive Port where
  | pilot
  | director
  | safety
deriving DecidableEq, Repr

/-- The blocks that hand messages to FC or SU (00_scope 4). -/
inductive Block where
  | wlc
  | lm
  | zt
  | fc
  | cs
deriving DecidableEq, Repr

/-- What a console port's line brings: a byte, or a byte without a stop bit (R193). -/
inductive LineByte where
  | byte (b : Byte)
  | framingError
deriving DecidableEq, Repr

/-- The commands. A console request names the port whose request in progress its owner takes (R194, R195; log 1).
A message between blocks that several senders can hand names the sender (log 2). -/
inductive Instr where
  | zonePut (port : Port)
  | zoneShift (port : Port)
  | zoneRenew (port : Port)
  | zoneSuspend (port : Port)
  | zoneResume (port : Port)
  | zoneDrop (port : Port)
  | zoneRead (port : Port)
  | zoneList (port : Port)
  | groupSuspend (port : Port)
  | groupResume (port : Port)
  | clockFreeze (port : Port)
  | clockThaw (port : Port)
  | clockRead (port : Port)
  | cueStore (port : Port)
  | cueDrop (port : Port)
  | cueRead (port : Port)
  | cueList (port : Port)
  | queueAdd (port : Port)
  | queueTake (port : Port)
  | queueSkip (port : Port)
  | queueClear (port : Port)
  | queueRead (port : Port)
  | launch (port : Port)
  | jog (port : Port)
  | hold (port : Port)
  | returnDock (port : Port)
  | stop (port : Port)
  | resume (port : Port)
  | flightRead (port : Port)
  | winchRead (port : Port)
  | driveQuery (port : Port)
  | counters (port : Port)
  | conditionsRead (port : Port)
  | acknowledge (port : Port)
  | configRead (port : Port)
  | configWrite (port : Port)
  | configSave (port : Port)
  | restart (port : Port)
  /-- The bytes received on the port up to the end of a frame that passes its CRC (R193, R194; log 27). -/
  | requestArrival (port : Port) (bytes : List LineByte)
  | gapTimerExpiry (port : Port)
  /-- `sent` bytes have left the port's transmit buffer (R198; log 13). -/
  | transmitRoomFreed (port : Port) (sent : Nat)
  | noticeHanded
  | powerOn
  | resetAsserted
  | resetReleased
  | restartResponseSent
  | estopAsserted
  | estopReleased
  | servoStep
  | carry
  | dwellTimerExpiry
  | deadmanExpiry
  | launchTimerExpiry
  | settleTimerExpiry
  | slackTimerExpiry (winch : Winch)
  | followTimerExpiry (winch : Winch)
  | periodBoundary
  | saveEnd
  /-- The bytes received on the link up to the end of a STATE frame (R159, R160; log 27). They are plain
  bytes: one without a stop bit, on which R159 is silent, has no effect of its own (log 48). -/
  | stateFrame (winch : Winch) (bytes : List Byte)
  | stateByteGap (winch : Winch)
  | windowEnd (winch : Winch)
  | queryTimeout (winch : Winch)
  | positionReport
  | changeReportFc
  | changeReportCt
  | zoneSummary
  | allowanceReport
  | stopCauseRaise (sender : Block)
  | stopCauseClear (sender : Block)
  | conditionRaiseAtSu (sender : Block)
  | conditionClearAtSu (sender : Block)
  | driveStatus
  | linkState
  | hotFlag
  | highFlag
  | warmFlag
  | airborneIndication
  /-- The bytes received on the port up to the byte that discards a frame (R193; log 27). -/
  | badFrame (port : Port) (bytes : List LineByte)
  | powerLoss
deriving DecidableEq, Repr

end Sys2Proof
end

