-- ==== Sys2Proof/WellFormed.lean ====
section
/-! DEFINITION. Which commands name an event that the part's wiring can bring. `exec` is total on all of them. -/

namespace Sys2Proof

/-- The blocks that hand FC raises of stop causes (R143). -/
def Block.raisesCauses : Block → Bool
  | .wlc | .lm | .zt => true
  | .fc | .cs => false

/-- The blocks that hand FC clears of stop causes: line and monitor causes alone are cleared (R143, R144). -/
def Block.clearsCauses : Block → Bool
  | .wlc | .lm => true
  | .zt | .fc | .cs => false

/-- The blocks that hand SU raises through a message: CONFIG_DEFAULT is raised at a start alone, with no message (R205, R212). -/
def Block.raisesConditions : Block → Bool
  | .wlc | .lm | .zt | .fc => true
  | .cs => false

/-- Well-formed commands: bytes are received in some number, at most the 512 bytes of a transmit buffer leave it at once (R198), and a
sender is one that sends such a message. -/
def Instr.wf : Instr → Bool
  | .requestArrival _ bytes => !bytes.isEmpty
  | .badFrame _ bytes => !bytes.isEmpty
  | .transmitRoomFreed _ sent => decide (1 ≤ sent) && decide (sent ≤ 512)
  | .stateFrame _ bytes => !bytes.isEmpty
  | .stopCauseRaise b => b.raisesCauses
  | .stopCauseClear b => b.clearsCauses
  | .conditionRaiseAtSu b => b.raisesConditions
  | .zonePut _ | .zoneShift _ | .zoneRenew _ | .zoneSuspend _ | .zoneResume _ | .zoneDrop _ | .zoneRead _ | .zoneList _
  | .groupSuspend _ | .groupResume _ | .clockFreeze _ | .clockThaw _ | .clockRead _ | .cueStore _ | .cueDrop _ | .cueRead _
  | .cueList _ | .queueAdd _ | .queueTake _ | .queueSkip _ | .queueClear _ | .queueRead _ | .launch _ | .jog _ | .hold _
  | .returnDock _ | .stop _ | .resume _ | .flightRead _ | .winchRead _ | .driveQuery _ | .counters _ | .conditionsRead _
  | .acknowledge _ | .configRead _ | .configWrite _ | .configSave _ | .restart _ | .gapTimerExpiry _ | .noticeHanded | .powerOn
  | .resetAsserted | .resetReleased | .restartResponseSent | .estopAsserted | .estopReleased | .servoStep | .carry
  | .dwellTimerExpiry | .deadmanExpiry | .launchTimerExpiry | .settleTimerExpiry | .slackTimerExpiry _ | .followTimerExpiry _
  | .periodBoundary | .saveEnd | .stateByteGap _ | .windowEnd _ | .queryTimeout _ | .positionReport | .changeReportFc
  | .changeReportCt | .zoneSummary | .allowanceReport | .conditionClearAtSu _ | .driveStatus | .linkState | .hotFlag | .highFlag
  | .warmFlag | .airborneIndication | .powerLoss => true

end Sys2Proof
end

