-- ==== Sys2Proof/Config.lean ====
section
/-! DEFINITION. The working configuration record of the Configuration Store with its defaults (R206 and the rules it names), and the
free values: constants without a body for what the spec leaves open. -/

namespace Sys2Proof

/-- A zone or cue cell of the permission matrix (R22, R89). -/
inductive Cell where
  | no
  | owned
  | any
deriving DecidableEq, Repr

/-- The acceptance policy for DEGRADED frames (R161). -/
inductive Policy where
  | accept
  | keep
  | miss
deriving DecidableEq, Repr

/-- The temperature a comparator reads (R180). -/
inductive TempSource where
  | winding
  | heatsink
deriving DecidableEq, Repr

/-- SAG_DIV: newtons per mm of sag, or OFF (R184). -/
inductive SagDiv where
  | n5
  | n10
  | n20
  | n40
  | off
deriving DecidableEq, Repr

/-- The baud rate of the console ports (R191). -/
inductive Baud where
  | b115200
  | b460800
  | b921600
deriving DecidableEq, Repr

/-- GEOMETRY, all in mm (R15, R206). -/
structure GeometryCfg where
  xSize : Int
  ySize : Int
  height : Int
  floor : Int
  ceilingClear : Int
  rH : Int
  rB : Int
  rT : Int
  standoff : Int
  dock : Vec3
  dockTol : Int
  transitZ : Int
  pxLo : Int
  pxHi : Int
  pyLo : Int
  pyHi : Int
  cautionZ : Int
deriving DecidableEq, Repr

/-- MOTION, in mm/s and mm/s² (R206). -/
structure MotionCfg where
  maxSpeed : Int
  accel : Int
  decel : Int
  evictSpeed : Int
  returnSpeed : Int
  reducedHigh : Int
  reducedWarm : Int
deriving DecidableEq, Repr

/-- FOLLOWING, in mm and ms (R206). -/
structure FollowingCfg where
  followTol : Int
  followTime : Int
deriving DecidableEq, Repr

/-- WINCH, one per winch (R206). -/
structure WinchCfg where
  scale : Int
  offset : Int
  shift : Nat
  slackLim : Int
  highLim : Int
  overLim : Int
  tensHyst : Int
  slackTime : Int
  warmSrc : TempSource
  hotSrc : TempSource
  warmLim : Int
  hotLim : Int
  tempHyst : Int
  policy : Policy
  wdMin : Nat
deriving DecidableEq, Repr

/-- SAG (R184, R185, R206). -/
structure SagCfg where
  tRef : Int
  sagDiv : SagDiv
  riseRate : Int
  fallRate : Int
  direct : Bool
deriving DecidableEq, Repr

/-- The two cells of a zone or cue row; SAFETY has none (R196). -/
structure RoleCells where
  pilot : Cell
  director : Cell
deriving DecidableEq, Repr

/-- The two cells of a queue row; true grants (R89, R196). -/
structure QueueCells where
  pilot : Bool
  director : Bool
deriving DecidableEq, Repr

/-- MATRIX: the zone rows of R22, the cue store/drop row of R89 and the four queue rows of R89 (R196). -/
structure MatrixCfg where
  fixedAll : RoleCells
  playPut : RoleCells
  playSuspend : RoleCells
  playDrop : RoleCells
  tempAll : RoleCells
  cue : RoleCells
  queueAdd : QueueCells
  queueTake : QueueCells
  queueSkip : QueueCells
  queueClear : QueueCells
deriving DecidableEq, Repr

/-- The working configuration record (R206). -/
structure Record where
  geometry : GeometryCfg
  motion : MotionCfg
  following : FollowingCfg
  winch : Vector WinchCfg 4
  sag : SagCfg
  matrix : MatrixCfg
  baud : Baud
deriving DecidableEq, Repr

/-- Geometry defaults (R15). -/
def GeometryCfg.default : GeometryCfg :=
  { xSize := 120000, ySize := 90000, height := 35000, floor := 2500, ceilingClear := 5000,
    rH := 600, rB := 900, rT := 100, standoff := 500, dock := ⟨3000, 3000, 4000⟩, dockTol := 200,
    transitZ := 15000, pxLo := 7500, pxHi := 112500, pyLo := 11000, pyHi := 79000, cautionZ := 6000 }

/-- Motion defaults (R117, R119, R25, R66). -/
def MotionCfg.default : MotionCfg :=
  { maxSpeed := 6000, accel := 2500, decel := 4000, evictSpeed := 1000, returnSpeed := 1500,
    reducedHigh := 2000, reducedWarm := 3000 }

/-- Following defaults (R12, R181). -/
def FollowingCfg.default : FollowingCfg := { followTol := 250, followTime := 400 }

/-- Winch defaults (R177 to R180, R161, R164). -/
def WinchCfg.default : WinchCfg :=
  { scale := 10000, offset := 0, shift := 0, slackLim := 600, highLim := 9000, overLim := 14000,
    tensHyst := 100, slackTime := 200, warmSrc := .winding, hotSrc := .winding, warmLim := 85,
    hotLim := 110, tempHyst := 5, policy := .keep, wdMin := 15 }

/-- Sag defaults (R184, R185). -/
def SagCfg.default : SagCfg :=
  { tRef := 4000, sagDiv := .n10, riseRate := 400, fallRate := 50, direct := false }

/-- Matrix defaults (R22, R89, R196). -/
def MatrixCfg.default : MatrixCfg :=
  { fixedAll := ⟨.no, .no⟩, playPut := ⟨.no, .any⟩, playSuspend := ⟨.no, .no⟩, playDrop := ⟨.no, .any⟩,
    tempAll := ⟨.owned, .owned⟩, cue := ⟨.no, .any⟩, queueAdd := ⟨false, true⟩, queueTake := ⟨true, true⟩,
    queueSkip := ⟨false, true⟩, queueClear := ⟨false, true⟩ }

/-- The default record (R206). -/
def Record.default : Record :=
  { geometry := .default, motion := .default, following := .default,
    winch := #v[.default, .default, .default, .default], sag := .default, matrix := .default, baud := .b460800 }

/-- The computations that round "to the nearest" without a rule for a tie. -/
inductive TieSite where
  | locateX        -- R11
  | locateY        -- R11
  | sample         -- R99
  | velocity       -- R119
  | displacement   -- R121
deriving DecidableEq, Repr

/-- FREE VALUE (log 6, DESIGN CHOICE): whether a result exactly half way between `below` and `below + 1` rounds up, at each
computation whose rule says "rounded to the nearest" and gives no direction for a tie. -/
opaque Config.tieRoundsUp (site : TieSite) (below : Int) : Bool

/-- FREE VALUE (log 8, DESIGN CHOICE): whether a reported quantity of `um` µm, not a whole number of mm, is given rounded up, where
its rule states no rounding. -/
opaque Config.reportRoundsUp (um : Int) : Bool

/-- FREE VALUE (log 12, DESIGN CHOICE): what a response carries whose content is longer than a frame can carry. -/
opaque Config.overlongContent (content : List Byte) : List Byte

/-- FREE VALUE (log 19, DESIGN CHOICE): the root term of an eviction's move length in µm where (STANDOFF + 100)² − G² is negative. -/
opaque Config.evictionRoot (radicand : Int) : Int

end Sys2Proof
end

