-- ==== Sys2Proof/Machine/Arith.lean ====
section
/-! DEFINITION. Exact arithmetic: integer square roots, rounding to the nearest with its tie left free, and enclosures of the real
numbers that the servo step computes exactly before it rounds (R99, R116 to R120; log 6, log 7). -/

namespace Sys2Proof

/-- `⌊√n⌋` for n below 4^fuel, one binary digit a level. -/
def isqrtAux : Nat → Nat → Nat
  | 0, _ => 0
  | fuel + 1, n => if (2 * isqrtAux fuel (n / 4) + 1) ^ 2 ≤ n then 2 * isqrtAux fuel (n / 4) + 1 else 2 * isqrtAux fuel (n / 4)

/-- `⌊√n⌋`. -/
def isqrt (n : Nat) : Nat := isqrtAux (n.log2 / 2 + 1) n

/-- `⌈√n⌉`. -/
def csqrt (n : Nat) : Nat := if isqrt n ^ 2 = n then isqrt n else isqrt n + 1

/-- Toward the larger value: `⌈a / b⌉` for b above 0. -/
def ceilDiv (a b : Int) : Int := -(-a / b)

/-- The whole number nearest to `a / b` (b above 0); a tie rounds as the free value says (log 6). -/
def roundNearest (site : TieSite) (a b : Int) : Int :=
  if 2 * (a % b) < b then a / b
  else if b < 2 * (a % b) then a / b + 1
  else if Config.tieRoundsUp site (a / b) then a / b + 1 else a / b

/-- The whole number nearest to `a / √n` (n above 0); a tie rounds as the free value says. `⌊2|a| / √n⌋` decides: below an odd number of
halves, above it, or on it. -/
def roundNearestOverRoot (site : TieSite) (a : Int) (n : Nat) : Int :=
  let halves : Nat := isqrt (4 * a.natAbs ^ 2 / n)
  let below : Nat := halves / 2
  if halves % 2 = 0 then (if 0 ≤ a then (below : Int) else -(below : Int))
  else if halves ^ 2 * n ≠ 4 * a.natAbs ^ 2 then (if 0 ≤ a then (below : Int) + 1 else -((below : Int) + 1))
  else if 0 ≤ a then (if Config.tieRoundsUp site below then (below : Int) + 1 else below)
  else if Config.tieRoundsUp site (-((below : Int) + 1)) then -(below : Int) else -((below : Int) + 1)

/-- A quantity of `um` µm as reported in whole mm where its rule states no rounding (log 8). -/
def reportMm (um : Int) : Int :=
  if um % 1000 = 0 then um / 1000 else if Config.reportRoundsUp um then um / 1000 + 1 else um / 1000

/-- Toward zero to whole mm: how P is reported (R4). -/
def mmTowardZero (um : Int) : Int := um.tdiv 1000

/-! ## Enclosures -/

/-- The enclosures' unit: a real number x is held as bounds on x · 2^64. -/
def ivUnit : Int := 18446744073709551616

/-- An enclosure of a real number: `lo ≤ x · 2^64 ≤ hi`. -/
structure Iv where
  lo : Int
  hi : Int
deriving DecidableEq, Repr

/-- The whole number n, exactly. -/
def Iv.ofInt (n : Int) : Iv := ⟨n * ivUnit, n * ivUnit⟩

/-- √n, rounded outward. -/
def Iv.ofSqrt (n : Nat) : Iv := ⟨isqrt (n * ivUnit.toNat ^ 2), csqrt (n * ivUnit.toNat ^ 2)⟩

def Iv.add (a b : Iv) : Iv := ⟨a.lo + b.lo, a.hi + b.hi⟩

def Iv.neg (a : Iv) : Iv := ⟨-a.hi, -a.lo⟩

def Iv.sub (a b : Iv) : Iv := a.add b.neg

/-- The least and greatest product of two enclosures' ends, at twice the unit's power. -/
def Iv.mulWide (a b : Iv) : Iv :=
  ⟨min (min (a.lo * b.lo) (a.lo * b.hi)) (min (a.hi * b.lo) (a.hi * b.hi)),
   max (max (a.lo * b.lo) (a.lo * b.hi)) (max (a.hi * b.lo) (a.hi * b.hi))⟩

def Iv.mul (a b : Iv) : Iv := ⟨(a.mulWide b).lo / ivUnit, ceilDiv (a.mulWide b).hi ivUnit⟩

/-- `a / b` for b above 0; an enclosure of b that reaches 0 or below is taken at its upper end alone. -/
def Iv.div (a b : Iv) : Iv :=
  let lo := if 0 < b.lo then b.lo else b.hi
  ⟨if 0 ≤ a.lo then a.lo * ivUnit / b.hi else a.lo * ivUnit / lo,
   if 0 ≤ a.hi then ceilDiv (a.hi * ivUnit) lo else ceilDiv (a.hi * ivUnit) b.hi⟩

/-- √a, a taken as 0 where it is negative. -/
def Iv.sqrt (a : Iv) : Iv := ⟨isqrt (a.lo * ivUnit).toNat, csqrt (a.hi * ivUnit).toNat⟩

def Iv.min (a b : Iv) : Iv := ⟨Min.min a.lo b.lo, Min.min a.hi b.hi⟩

def Iv.max (a b : Iv) : Iv := ⟨Max.max a.lo b.lo, Max.max a.hi b.hi⟩

/-- The whole number nearest to the enclosed number: the one both ends round to, or, where they differ or lie on a tie, the free
choice between the two neighbours (log 6, log 7). -/
def Iv.round (site : TieSite) (a : Iv) : Int :=
  let lo := (2 * a.lo + ivUnit) / (2 * ivUnit)
  let hi := (2 * a.hi + ivUnit) / (2 * ivUnit)
  if (2 * a.lo + ivUnit) % (2 * ivUnit) = 0 ∨ lo ≠ hi then
    (if Config.tieRoundsUp site (hi - 1) then hi else hi - 1)
  else lo

/-! ## Vectors -/

/-- Three enclosures. -/
structure IvVec where
  x : Iv
  y : Iv
  z : Iv
deriving DecidableEq, Repr

def Vec3.zero : Vec3 := ⟨0, 0, 0⟩

def Vec3.add (a b : Vec3) : Vec3 := ⟨a.x + b.x, a.y + b.y, a.z + b.z⟩

def Vec3.sub (a b : Vec3) : Vec3 := ⟨a.x - b.x, a.y - b.y, a.z - b.z⟩

def Vec3.scale (k : Int) (a : Vec3) : Vec3 := ⟨k * a.x, k * a.y, k * a.z⟩

/-- The sum of the squares of the components. -/
def Vec3.norm2 (a : Vec3) : Nat := a.x.natAbs ^ 2 + a.y.natAbs ^ 2 + a.z.natAbs ^ 2

/-- The squared distance of two points. -/
def Vec3.dist2 (a b : Vec3) : Nat := (Vec3.sub a b).norm2

def IvVec.ofVec (a : Vec3) : IvVec := ⟨.ofInt a.x, .ofInt a.y, .ofInt a.z⟩

def IvVec.add (a b : IvVec) : IvVec := ⟨a.x.add b.x, a.y.add b.y, a.z.add b.z⟩

def IvVec.sub (a b : IvVec) : IvVec := ⟨a.x.sub b.x, a.y.sub b.y, a.z.sub b.z⟩

def IvVec.scale (k : Iv) (a : IvVec) : IvVec := ⟨k.mul a.x, k.mul a.y, k.mul a.z⟩

/-- The sum of the squares; a square is never negative. -/
def IvVec.norm2 (a : IvVec) : Iv :=
  ((a.x.mul a.x).max (.ofInt 0)).add (((a.y.mul a.y).max (.ofInt 0)).add ((a.z.mul a.z).max (.ofInt 0)))

/-- V is held to 1 µm/s on each axis, rounded to the nearest (R119). -/
def IvVec.round (site : TieSite) (a : IvVec) : Vec3 := ⟨a.x.round site, a.y.round site, a.z.round site⟩

end Sys2Proof
end

