-- ==== Sys2Proof/Machine/State.lean ====
section
/-! DEFINITION. The state of the part as plain data: every register, table, queue, timer, counter, flag and line the spec gives its
eight blocks, the messages handed between them and not yet taken, and the queue of waiting commands; and the state after a start. -/

namespace Sys2Proof.Machine

/-- Nothing stops the part: the spec gives no event that does (R197 refuses requests by a result code, R193 and R166 count bad frames,
R143 makes every fault of the rig a stop cause). No meaning raises a fault. -/
inductive Fault where
deriving DecidableEq, Repr

/-- What a command without a meaning answers. -/
inductive Refusal where
  /-- Raised by an arm of `exec` whose command has no meaning yet; no arm uses it. Safe. -/
  | notModelled (mnemonic : String)
deriving DecidableEq, Repr

/-! ## Zone Table -/

/-- R20. -/
inductive ZoneClass where
  | fixed
  | play
  | temporary
deriving DecidableEq, Repr

/-- The states of a zone in a slot that is not FREE (R16, R17). -/
inductive ZoneState where
  | pending
  | armed
  | suspended
deriving DecidableEq, Repr

/-- R54: `off` is NONE. -/
inductive Relation where
  | off
  | clear
  | near
deriving DecidableEq, Repr

/-- The fields of a zone record that a slot holds while it is not FREE (R16). Lengths in mm, the cap in mm/s. -/
structure Zone where
  state : ZoneState
  cls : ZoneClass
  owner : Port
  box : Box
  guard : Int
  hyst : Int
  cap : Int
  group : Nat
  expiry : Option ClockValue
  awaiting : Bool
  relation : Relation
  clearance : Option Int
deriving DecidableEq, Repr

/-- A zone slot; FREE exactly when `zone` is absent. The generation is kept while FREE (R16, R18). -/
structure ZoneSlot where
  generation : Generation
  zone : Option Zone
deriving DecidableEq, Repr

/-- A position report (R48): P in µm, absent when the report marks the position invalid, and A in µm. -/
structure PositionReport where
  p : Option Vec3
  a : Int
deriving DecidableEq, Repr

/-- The Zone Table (R16, R48, R56, R58, R60, R74). -/
structure Zt where
  slots : Vector ZoneSlot 48
  queue : List ZoneHandle
  clock : ClockValue
  frozen : Bool
  held : Bool
  carry : PartTime
  report : PositionReport
  subject : Option ZoneHandle
  overflow : Bool
deriving DecidableEq, Repr

/-- A handle and a generation, which together name a zone (R18). -/
structure ZoneName where
  handle : ZoneHandle
  generation : Generation
deriving DecidableEq, Repr

/-- R42; RENEW stands in notices alone (R43). -/
inductive ChangeKind where
  | arm
  | pend
  | demote
  | shift
  | suspend
  | drop
  | expire
  | renew
deriving DecidableEq, Repr

/-- One entry of a change report (R42), with the class its notice carries (R43). A state absent is FREE. -/
structure ChangeEntry where
  handle : ZoneHandle
  generation : Generation
  cls : ZoneClass
  kind : ChangeKind
  before : Option ZoneState
  after : Option ZoneState
deriving DecidableEq, Repr

/-- A zone in force as a change report carries it (R42). -/
structure ForceZone where
  handle : ZoneHandle
  generation : Generation
  state : ZoneState
  box : Box
  guard : Int
  hyst : Int
  cap : Int
  clearance : Option Int
deriving DecidableEq, Repr

/-- A change report (R42) with its near-cap part (R55). -/
structure ChangeReport where
  changes : List ChangeEntry
  inForce : List ForceZone
  subject : Option ZoneName
  relieving : Bool
  nearCap : Option Int
deriving DecidableEq, Repr

/-! ## Cue Table -/

/-- The fields of an occupied cue slot (R86); target, tolerance in mm, cruise in mm/s, dwell in ms. READY when `blockers` is 0. -/
structure Cue where
  label : List Byte
  target : Vec3
  cruise : Int
  tolerance : Int
  dwell : Int
  owner : Port
  blockers : Nat
deriving DecidableEq, Repr

/-- A cue slot; EMPTY exactly when `cue` is absent (R86, R87). -/
structure CueSlot where
  generation : Generation
  cue : Option Cue
deriving DecidableEq, Repr

/-- R86. -/
inductive CueState where
  | empty
  | ready
  | blocked
deriving DecidableEq, Repr

/-- R96. -/
inductive StartKind where
  | auto
  | call
deriving DecidableEq, Repr

/-- R96. -/
inductive EntryStatus where
  | waiting
  | running
  | blocked
  | cut
  | aborted
deriving DecidableEq, Repr

/-- A shot queue entry (R96). -/
structure QueueEntry where
  handle : CueHandle
  generation : Generation
  kind : StartKind
  status : EntryStatus
deriving DecidableEq, Repr

/-- The Cue Table (R86, R90, R96 to R98). -/
structure Ct where
  slots : Vector CueSlot 32
  queue : List QueueEntry
  halted : Bool
  dwell : Option PartTime
  zones : List ForceZone
  allowance : Int
deriving DecidableEq, Repr

/-! ## Flight Controller -/

/-- The sub-states of RETURN (R111). -/
inductive Leg where
  | rise
  | traverse
  | descend
  | settle
deriving DecidableEq, Repr

/-- The flight mode (R111); `ret` is RETURN. LAUNCHING has the one sub-state RELEASE. -/
inductive Mode where
  | parked
  | launching
  | hold
  | jog
  | cue
  | evict
  | ret (leg : Leg)
  | stopped
deriving DecidableEq, Repr

/-- The exit directions in their order (R8). -/
inductive ExitDir where
  | zUp
  | xDown
  | xUp
  | yDown
  | yUp
deriving DecidableEq, Repr

/-- FC's run record (R100, R112): target and tolerance in mm, cruise in mm/s. -/
structure RunRecord where
  handle : CueHandle
  generation : Generation
  target : Vec3
  cruise : Int
  tolerance : Int
deriving DecidableEq, Repr

/-- FC's eviction record (R65): target and move length in µm. -/
structure EvictRecord where
  subject : ZoneName
  dir : ExitDir
  target : Vec3
  length : Int
deriving DecidableEq, Repr

/-- The stop causes (R143). -/
inductive Cause where
  | estop
  | stop
  | linkLost (winch : Winch)
  | driveFault (winch : Winch)
  | follow (winch : Winch)
  | slack (winch : Winch)
  | overload (winch : Winch)
  | demoteOverflow
  | launchFail
  | parkFail
  | restart
deriving DecidableEq, Repr

/-- An entry of the stop-cause set: live, or released (R143). -/
structure CauseEntry where
  cause : Cause
  live : Bool
deriving DecidableEq, Repr

/-- The term that set a step's speed cap (R117, R142). -/
inductive CapTerm where
  | maxSpeed
  | modeSpeed
  | nearCap
  | reducedHigh
  | reducedWarm
deriving DecidableEq, Repr

/-- R159. -/
inductive DriveStatus where
  | braked
  | releasing
  | tracking
  | fault
deriving DecidableEq, Repr

/-- R157. -/
inductive Command where
  | brake
  | release
  | track
deriving DecidableEq, Repr

/-- R164. -/
inductive LinkState where
  | down
  | up
  | degraded
  | lost
deriving DecidableEq, Repr

/-- The Flight Controller (R112, R99, R142, R143, R165). -/
structure Fc where
  mode : Mode
  p : Option Vec3
  v : Vec3
  latch : Bool
  maxSpeed : Int
  jogDemand : Vec3
  deadman : Option PartTime
  launchTimer : Option PartTime
  settleTimer : Option PartTime
  servo : PartTime
  run : Option RunRecord
  evict : Option EvictRecord
  legGoal : Option Vec3
  zones : List ForceZone
  nearCap : Option Int
  subject : Option ZoneName
  high : Bool
  warm : Bool
  hot : Bool
  driveStatus : Vector (Option DriveStatus) 4
  lengths : Vector (Option Int) 4
  links : Vector LinkState 4
  allowanceSent : Int
  lastA : Int
  lastCap : Int
  lastCapTerm : CapTerm
  causes : List CauseEntry
  evictBlocked : Bool
  returnBlocked : Bool
  pinned : Bool
  lowPass : Bool
deriving DecidableEq, Repr

/-! ## Winch Link Controller -/

/-- R159. -/
inductive Completion where
  | ok
  | degraded
  | rejected
deriving DecidableEq, Repr

/-- The query part of a TARGET frame (R157). -/
structure QueryPart where
  id : BitVec 3
  code : BitVec 4
  args : List Byte
deriving DecidableEq, Repr

/-- A TARGET frame's content (R157). -/
structure Target where
  seq : BitVec 4
  length : Int
  command : Command
  query : Option QueryPart
deriving DecidableEq, Repr

/-- The measurements of a STATE frame (R159, R161). -/
structure Measurement where
  length : Int
  raw : Nat
  winding : Int
  heatsink : Int
deriving DecidableEq, Repr

/-- A drive query in flight (R168). -/
structure QuerySlot where
  id : BitVec 3
  code : BitVec 4
  args : List Byte
  carried : Nat
  port : Port
  tag : Byte
deriving DecidableEq, Repr

/-- The five link counters, each 0..65,535 (R166). -/
structure Counters where
  good : Nat
  badCheck : Nat
  missed : Nat
  staleSeq : Nat
  degraded : Nat
deriving DecidableEq, Repr

/-- One winch link (chapter 8's table, R159, R175). -/
structure Link where
  heldLength : Int
  heldCommand : Command
  seq : BitVec 4
  exchangeOpen : Bool
  last : Option Target
  windowClosed : Nat
  windowGood : Nat
  badWindows : Nat
  state : LinkState
  status : Option (Completion × DriveStatus)
  meas : Option Measurement
  rejectedRun : Nat
  driveFault : Bool
  query : Option QuerySlot
  nextQueryId : BitVec 3
  counters : Counters
  rx : List Byte
deriving DecidableEq, Repr

/-! ## Load Monitor -/

/-- What LM holds of the last set of measurements of a winch (R176). -/
structure LoadSet where
  raw : Nat
  tension : Int
  winding : Int
  heatsink : Int
  length : Int
  targetLength : Int
  targetCommand : Command
deriving DecidableEq, Repr

/-- A SLACK or FOLLOW comparator: CLEAR, TIMING with its timer, or the condition (R179, R181). -/
inductive TimedComparator where
  | clear
  | timing (due : PartTime)
  | live
deriving DecidableEq, Repr

/-- One winch in LM (9.1). -/
structure LmWinch where
  meas : Option LoadSet
  overload : Bool
  tensionHigh : Bool
  slack : TimedComparator
  motorWarm : Bool
  motorHot : Bool
  follow : TimedComparator
deriving DecidableEq, Repr

/-- The Load Monitor; A* and A in µm (9.1). -/
structure Lm where
  winches : Vector LmWinch 4
  high : Bool
  warm : Bool
  hot : Bool
  aStar : Int
  a : Int
deriving DecidableEq, Repr

/-! ## Status Unit -/

/-- A condition's flags (R200). -/
structure Cond where
  live : Bool
  latched : Bool
deriving DecidableEq, Repr

/-- R202. -/
inductive Pattern where
  | off
  | blip
  | slow
  | fast
  | steady
deriving DecidableEq, Repr

/-- The Status Unit (R200, R202). -/
structure Su where
  conds : Vector Cond 43
  airborne : Bool
  driven : Pattern
  periodStart : PartTime
deriving DecidableEq, Repr

/-! ## Configuration Store -/

/-- A stored FIXED zone (R207, R209). -/
structure StoredZone where
  box : Box
  guard : Int
  hyst : Int
  cap : Int
  group : Nat
deriving DecidableEq, Repr

/-- The snapshots a save writes (R209). -/
structure Image where
  record : Record
  zones : List StoredZone
deriving DecidableEq, Repr

/-- The flash device: erased, cut short while a save was writing it, or holding an image whose CRC matches (R209, R210, R212; log 22). -/
inductive Flash where
  | erased
  | incomplete
  | holds (image : Image)
deriving DecidableEq, Repr

/-- R209. -/
inductive SaveState where
  | idle
  | saving (image : Image) (ends : PartTime)
deriving DecidableEq, Repr

/-- The Configuration Store (chapter 11's table) with its flash. -/
structure Cs where
  record : Record
  storedFixed : List StoredZone
  unconfigured : Bool
  save : SaveState
  lastSave : Option PartTime
  flash : Flash
deriving DecidableEq, Repr

/-! ## Console Interface -/

/-- The result codes (R197). -/
inductive Result where
  | ok
  | busy
  | unknown
  | denied
  | badField
  | noZone
  | stale
  | tableFull
  | classFull
  | pendingFull
  | locked
  | noCue
  | inUse
  | queueFull
  | empty
  | mode
  | blocked
  | estop
  | causeActive
  | deviation
  | inconsistent
  | outOfRange
  | link
  | queryBusy
  | timeout
  | notConfigured
  | saving
deriving DecidableEq, Repr

/-- A request with its fields as its body carries them, not yet checked by its owner (R192, R195 and the rule of each request). -/
inductive Request where
  | zonePut (cls : Byte) (box : Box) (guard hyst cap : Int) (group : Option Byte) (life : Option Int)
  | zoneShift (handle gen : Byte) (box : Box) (guard hyst cap : Option Int)
  | zoneRenew (handle gen : Byte) (life : Int)
  | zoneSuspend (handle gen : Byte)
  | zoneResume (handle gen : Byte)
  | zoneDrop (handle gen : Byte)
  | zoneRead (handle gen : Byte)
  | zoneList (states classes : Byte)
  | groupSuspend (group : Byte)
  | groupResume (group : Byte)
  | clockFreeze
  | clockThaw
  | clockRead
  | cueStore (handle : Byte) (label : List Byte) (target : Vec3) (cruise tolerance dwell : Int)
  | cueDrop (handle gen : Byte)
  | cueRead (handle gen : Byte)
  | cueList (states : Byte)
  | queueAdd (handle gen kind : Byte)
  | queueTake
  | queueSkip
  | queueClear
  | queueRead
  | launch
  | jog (demand : Vec3)
  | hold
  | returnDock
  | stop
  | resume
  | flightRead
  | winchRead (winch : Byte)
  | driveQuery (winch code : Byte) (args : List Byte)
  | counters (winch clear : Byte)
  | conditionsRead (clear : Byte)
  | acknowledge (number : Byte)
  | configRead (group : Byte) (winch : Option Byte)
  | configWrite (group : Byte) (rest : List Byte)
  | configSave
  | restart
deriving DecidableEq, Repr

/-- A request frame waiting in a port's queue: kind, tag and body (R192, R194). -/
structure QueuedRequest where
  kind : Byte
  tag : Byte
  body : List Byte
deriving DecidableEq, Repr

/-- A response before it is placed: the overrun bit is added as it is appended (R192, R198). -/
structure Response where
  kind : Byte
  tag : Byte
  result : Result
  content : List Byte
deriving DecidableEq, Repr

/-- Where the request in progress stands: handed to its owner and not yet taken, held by WLC while its query is in flight (R168), or
answered with the response waiting for room (R198). -/
inductive Stage where
  | handed (request : Request)
  | inFlight
  | waiting (response : Response)
deriving DecidableEq, Repr

/-- The request in progress on a port (R194, R195). -/
structure InProgress where
  kind : Byte
  tag : Byte
  stage : Stage
deriving DecidableEq, Repr

/-- A whole frame in a transmit buffer (R192, R198). -/
structure TxFrame where
  notice : Bool
  kind : Byte
  tag : Byte
  body : List Byte
deriving DecidableEq, Repr

/-- A port's receiver (R193). HEADER holds the length and the kind once taken; BODY and CHECK hold the bytes taken, CHECK the first
CRC byte once taken. -/
inductive Receiver where
  | hunt
  | length
  | header (n : Byte) (kind : Option Byte)
  | body (n kind tag : Byte) (taken : List Byte)
  | check (n kind tag : Byte) (taken : List Byte) (crcHigh : Option Byte)
deriving DecidableEq, Repr

/-- One console port (R191, R193, R194, R198). -/
structure PortState where
  rx : Receiver
  gapTimer : Option PartTime
  queue : List QueuedRequest
  inProgress : Option InProgress
  tx : List TxFrame
  txSent : Nat
  overrun : Bool
  badFrames : Nat
deriving DecidableEq, Repr

/-- The Console Interface: three ports at one rate (R191). -/
structure Cif where
  pilot : PortState
  director : PortState
  safety : PortState
  rate : Baud
deriving DecidableEq, Repr

/-! ## Messages between blocks -/

/-- What FC takes from ZT, WLC and LM (R42, R55, R143, R162, R165, R183). -/
inductive FcMsg where
  | change (report : ChangeReport)
  | summary (nearCap : Option Int) (subject : Option ZoneName)
  | raise (cause : Cause)
  | clear (cause : Cause)
  | driveStatus (winch : Winch) (status : DriveStatus)
  | linkState (winch : Winch) (state : LinkState)
  | high (set : Bool)
  | warm (set : Bool)
  | hot (set : Bool)
deriving DecidableEq, Repr

/-- What SU takes from the owners of conditions, by condition number, and from FC the airborne indication (R200, R202). -/
inductive SuMsg where
  | raise (number : Fin 43)
  | clear (number : Fin 43)
  | airborne (set : Bool)
deriving DecidableEq, Repr

/-- R95. -/
inductive CueChangeKind where
  | store
  | drop
  | state
deriving DecidableEq, Repr

/-- The notices (R199): R113, R43, R95, R108, R200. -/
inductive Notice where
  | modeChanged (mode : Mode) (latch : Bool) (causes : List CauseEntry)
  | zoneChanged (name : ZoneName) (cls : ZoneClass) (kind : ChangeKind) (after : Option ZoneState) (expiry : Option ClockValue)
  | cueChanged (handle : CueHandle) (generation : Generation) (kind : CueChangeKind) (after : CueState) (blockers : Nat)
  | queueChanged (count : Nat) (head : Option QueueEntry) (halted : Bool)
  | conditionRaised (number : Fin 43) (flags : Cond)
  | conditionCleared (number : Fin 43) (flags : Cond)
deriving DecidableEq, Repr

/-- Messages handed and not yet taken, oldest first, one list per pair of blocks (R41, R48, R55, R123, R165, R182, R199, R200; log 2). -/
structure Channels where
  fcToZt : List PositionReport
  ztToFc : List FcMsg
  wlcToFc : List FcMsg
  lmToFc : List FcMsg
  ztToCt : List ChangeReport
  fcToCt : List Int
  wlcToSu : List SuMsg
  lmToSu : List SuMsg
  ztToSu : List SuMsg
  fcToSu : List SuMsg
  csToSu : List SuMsg
  notices : List Notice
deriving DecidableEq, Repr

/-! ## The part -/

/-- Supply, lines, part time and an outstanding RESTART (R74, R147, R211, R212). -/
structure Part where
  supply : Bool
  resetLine : Bool
  estopLine : Bool
  partTime : PartTime
  restartAccepted : Bool
deriving DecidableEq, Repr

/-- The whole state. `pending` is the queue of waiting commands, first in, first out. -/
structure State where
  part : Part
  cif : Cif
  zt : Zt
  ct : Ct
  fc : Fc
  wlc : Vector Link 4
  lm : Lm
  su : Su
  cs : Cs
  chan : Channels
  pending : List Instr
deriving DecidableEq, Repr

/-! ## After start -/

/-- A port after start (R205). -/
def PortState.reset : PortState :=
  { rx := .hunt, gapTimer := none, queue := [], inProgress := none, tx := [], txSent := 0, overrun := false, badFrames := 0 }

/-- CIF after a start with the given rate (R205). -/
def Cif.reset (rate : Baud) : Cif := { pilot := .reset, director := .reset, safety := .reset, rate := rate }

/-- ZT after start with the given slots (R47, R74). -/
def Zt.reset (slots : Vector ZoneSlot 48) : Zt :=
  { slots := slots, queue := [], clock := 0, frozen := false, held := false, carry := 100,
    report := { p := none, a := 0 }, subject := none, overflow := false }

/-- CT after start (R110). -/
def Ct.reset : Ct :=
  { slots := Vector.replicate 32 { generation := 0, cue := none }, queue := [], halted := true, dwell := none, zones := [],
    allowance := 0 }

/-- FC after start with the configured MAX_SPEED and the sampled ESTOP line (R112, R143, R147; log 21). -/
def Fc.reset (maxSpeed : Int) (estop : Bool) : Fc :=
  { mode := .stopped, p := none, v := ⟨0, 0, 0⟩, latch := false, maxSpeed := maxSpeed, jogDemand := ⟨0, 0, 0⟩,
    deadman := none, launchTimer := none, settleTimer := none, servo := 5, run := none, evict := none, legGoal := none,
    zones := [], nearCap := none, subject := none, high := false, warm := false, hot := false,
    driveStatus := Vector.replicate 4 none, lengths := Vector.replicate 4 none, links := Vector.replicate 4 .down,
    allowanceSent := 0, lastA := 0, lastCap := maxSpeed, lastCapTerm := .maxSpeed,
    causes := ⟨.restart, false⟩ :: (if estop then [⟨.estop, true⟩] else []),
    evictBlocked := false, returnBlocked := false, pinned := false, lowPass := false }

/-- A link after start (R175). -/
def Link.reset : Link :=
  { heldLength := 0, heldCommand := .brake, seq := 15, exchangeOpen := false, last := none, windowClosed := 0, windowGood := 0,
    badWindows := 0, state := .down, status := none, meas := none, rejectedRun := 0, driveFault := false, query := none,
    nextQueryId := 0, counters := { good := 0, badCheck := 0, missed := 0, staleSeq := 0, degraded := 0 }, rx := [] }

/-- A winch in LM after start (R190). -/
def LmWinch.reset : LmWinch :=
  { meas := none, overload := false, tensionHigh := false, slack := .clear, motorWarm := false, motorHot := false,
    follow := .clear }

/-- LM after start (R190). -/
def Lm.reset : Lm :=
  { winches := Vector.replicate 4 .reset, high := false, warm := false, hot := false, aStar := 0, a := 0 }

/-- The pattern SU selects at once at a start, from CONFIG_DEFAULT (WARNING), ESTOP (STOP) and the airborne indication, set (R205). -/
def Pattern.atStart (configDefault estop : Bool) : Pattern :=
  if estop then .steady else if configDefault then .fast else .blip

/-- SU after start: CONFIG_DEFAULT is condition 41 and ESTOP condition 36 (R200, R205). -/
def Su.reset (configDefault estop : Bool) : Su :=
  { conds := ((Vector.replicate 43 ⟨false, false⟩).set 41 ⟨configDefault, configDefault⟩).set 36 ⟨estop, estop⟩,
    airborne := true, driven := .atStart configDefault estop, periodStart := 0 }

/-- No message handed, but FC's allowance report with A = 0 to CT (R91, R112). -/
def Channels.reset : Channels :=
  { fcToZt := [], ztToFc := [], wlcToFc := [], lmToFc := [], ztToCt := [], fcToCt := [0], wlcToSu := [], lmToSu := [],
    ztToSu := [], fcToSu := [], csToSu := [], notices := [] }

/-- The part right after a start that finds the flash erased and the ESTOP line released (R212, R205; log 5): the defaults, no zones,
unconfigured, CONFIG_DEFAULT live and latched. -/
def State.reset : State :=
  { part := { supply := true, resetLine := false, estopLine := false, partTime := 0, restartAccepted := false },
    cif := .reset Record.default.baud,
    zt := .reset (Vector.replicate 48 { generation := 0, zone := none }),
    ct := .reset,
    fc := .reset Record.default.motion.maxSpeed false,
    wlc := Vector.replicate 4 .reset,
    lm := .reset,
    su := .reset true false,
    cs := { record := .default, storedFixed := [], unconfigured := true, save := .idle, lastSave := none, flash := .erased },
    chan := .reset,
    pending := [] }

end Sys2Proof.Machine
end

