-- ==== Sys2Proof/Machine/Bytes.lean ====
section
/-! DEFINITION. Fields of frames as bytes: the CRC-16 of R158, whole numbers most significant byte first, flags, optional fields and
lists (R192), the code or list position of every name (R192, R157, R159; log 11), and the frames themselves (R157, R192). -/

namespace Sys2Proof

/-! ## Names of ports and configuration values (R192; log 11) -/

def Port.code : Port → Nat
  | .pilot => 0
  | .director => 1
  | .safety => 2

def Policy.code : Policy → Nat
  | .accept => 0
  | .keep => 1
  | .miss => 2

def Cell.code : Cell → Nat
  | .no => 0
  | .owned => 1
  | .any => 2

def TempSource.code : TempSource → Nat
  | .winding => 0
  | .heatsink => 1

/-- The position in R184's list of four numbers and OFF; R192 gives no code to such a list (log 44). -/
def SagDiv.code : SagDiv → Nat
  | .n5 => 0
  | .n10 => 1
  | .n20 => 2
  | .n40 => 3
  | .off => 4

def Baud.rate : Baud → Int
  | .b115200 => 115200
  | .b460800 => 460800
  | .b921600 => 921600

end Sys2Proof

namespace Sys2Proof.Machine

/-! ## CRC-16 -/

/-- One bit of the CRC register, most significant first: x¹⁶ + x¹² + x⁵ + 1 (R158). -/
def crcShift (r : BitVec 16) : BitVec 16 := if r.msb then (r <<< 1) ^^^ 0x1021#16 else r <<< 1

/-- A byte enters the register (R158). -/
def crcByte (r : BitVec 16) (b : Byte) : BitVec 16 :=
  (List.range 8).foldl (fun r _ => crcShift r) (r ^^^ (b.setWidth 16 <<< 8))

/-- The CRC-16 of some bytes, from FFFFh, with no final value (R158). -/
def crc16 (bytes : List Byte) : BitVec 16 := bytes.foldl crcByte 0xFFFF#16

/-! ## Numbers -/

/-- One byte. -/
def u8 (n : Nat) : List Byte := [BitVec.ofNat 8 n]

/-- Two bytes, most significant first. -/
def u16 (n : Nat) : List Byte := [BitVec.ofNat 8 (n / 256), BitVec.ofNat 8 n]

/-- Four bytes of a 32-bit word, most significant first. -/
def word32 (w : BitVec 32) : List Byte :=
  [BitVec.ofNat 8 (w.toNat / 16777216), BitVec.ofNat 8 (w.toNat / 65536), BitVec.ofNat 8 (w.toNat / 256), BitVec.ofNat 8 w.toNat]

/-- A signed whole number in four bytes. -/
def i32 (n : Int) : List Byte := word32 (BitVec.ofInt 32 n)

/-- A signed whole number in one byte. -/
def i8 (n : Int) : List Byte := [BitVec.ofInt 8 n]

/-- A flag: 1 for set (R192). -/
def flag (b : Bool) : List Byte := u8 (if b then 1 else 0)

/-- An optional field: its presence byte, then its value (R192). -/
def optional {α : Type} (enc : α → List Byte) : Option α → List Byte
  | none => u8 0
  | some v => u8 1 ++ enc v

/-- A list: its count, then its entries (R192). -/
def counted {α : Type} (enc : α → List Byte) (l : List α) : List Byte := u8 l.length ++ l.flatMap enc

/-- A point or a velocity: x, y, z (R192). -/
def vec (v : Vec3) : List Byte := i32 v.x ++ i32 v.y ++ i32 v.z

/-- A box: its six bounds in order (R192). -/
def boxBytes (b : Box) : List Byte := i32 b.xlo ++ i32 b.xhi ++ i32 b.ylo ++ i32 b.yhi ++ i32 b.zlo ++ i32 b.zhi

/-! ## Reading numbers -/

def getU8 : List Byte → Option (Byte × List Byte)
  | b :: rest => some (b, rest)
  | [] => none

def getU16 : List Byte → Option (Nat × List Byte)
  | a :: b :: rest => some (a.toNat * 256 + b.toNat, rest)
  | _ => none

def getI32 : List Byte → Option (Int × List Byte)
  | a :: b :: c :: d :: rest =>
    some ((BitVec.ofNat 32 (a.toNat * 16777216 + b.toNat * 65536 + c.toNat * 256 + d.toNat)).toInt, rest)
  | _ => none

/-- An optional field; a presence byte above 1 fits no layout (log 23). -/
def getOptional {α : Type} (get : List Byte → Option (α × List Byte)) : List Byte → Option (Option α × List Byte)
  | [] => none
  | b :: rest =>
    if b = 0 then some (none, rest)
    else if b = 1 then (get rest).map (fun r => (some r.1, r.2))
    else none

def getVec (bs : List Byte) : Option (Vec3 × List Byte) := do
  let (x, bs) ← getI32 bs
  let (y, bs) ← getI32 bs
  let (z, bs) ← getI32 bs
  return (⟨x, y, z⟩, bs)

def getBox (bs : List Byte) : Option (Box × List Byte) := do
  let (xlo, bs) ← getI32 bs
  let (xhi, bs) ← getI32 bs
  let (ylo, bs) ← getI32 bs
  let (yhi, bs) ← getI32 bs
  let (zlo, bs) ← getI32 bs
  let (zhi, bs) ← getI32 bs
  return (⟨xlo, xhi, ylo, yhi, zlo, zhi⟩, bs)

/-- Text: a count byte and that many characters (R192). -/
def getText : List Byte → Option (List Byte × List Byte)
  | [] => none
  | n :: rest => if rest.length < n.toNat then none else some (rest.take n.toNat, rest.drop n.toNat)

/-! ## Names: the position in the list where the defining rule first gives the name, or its code (R192; log 11) -/

def ZoneClass.code : ZoneClass → Nat
  | .fixed => 0
  | .play => 1
  | .temporary => 2

/-- FREE, PENDING, ARMED, SUSPENDED (R16). -/
def slotStateCode : Option ZoneState → Nat
  | none => 0
  | some .pending => 1
  | some .armed => 2
  | some .suspended => 3

def Relation.code : Relation → Nat
  | .off => 0
  | .clear => 1
  | .near => 2

/-- R42's list gives the first seven kinds; RENEW stands in no list, and the model puts it after them (R43, R192; log 38). -/
def ChangeKind.code : ChangeKind → Nat
  | .arm => 0
  | .pend => 1
  | .demote => 2
  | .shift => 3
  | .suspend => 4
  | .drop => 5
  | .expire => 6
  | .renew => 7

/-- EMPTY, READY, BLOCKED (R86). -/
def CueState.code : CueState → Nat
  | .empty => 0
  | .ready => 1
  | .blocked => 2

def StartKind.code : StartKind → Nat
  | .auto => 0
  | .call => 1

def EntryStatus.code : EntryStatus → Nat
  | .waiting => 0
  | .running => 1
  | .blocked => 2
  | .cut => 3
  | .aborted => 4

def CueChangeKind.code : CueChangeKind → Nat
  | .store => 0
  | .drop => 1
  | .state => 2

/-- The position in R111's table, RETURN counted once (log 44). -/
def Mode.code : Mode → Nat
  | .parked => 0
  | .launching => 1
  | .hold => 2
  | .jog => 3
  | .cue => 4
  | .evict => 5
  | .ret _ => 6
  | .stopped => 7

/-- The sub-state where the mode has one: RELEASE, RISE, TRAVERSE, DESCEND, SETTLE, counted down R111's column (log 44). -/
def Mode.subState : Mode → Option Nat
  | .launching => some 0
  | .ret .rise => some 1
  | .ret .traverse => some 2
  | .ret .descend => some 3
  | .ret .settle => some 4
  | .parked | .hold | .jog | .cue | .evict | .stopped => none

def ExitDir.code : ExitDir → Nat
  | .zUp => 0
  | .xDown => 1
  | .xUp => 2
  | .yDown => 3
  | .yUp => 4

/-- R143's table. -/
def Cause.code : Cause → Nat
  | .estop => 0
  | .stop => 1
  | .linkLost _ => 2
  | .driveFault _ => 3
  | .follow _ => 4
  | .slack _ => 5
  | .overload _ => 6
  | .demoteOverflow => 7
  | .launchFail => 8
  | .parkFail => 9
  | .restart => 10

/-- The winch of a per-winch cause (R143). -/
def Cause.winch? : Cause → Option Winch
  | .linkLost w | .driveFault w | .follow w | .slack w | .overload w => some w
  | .estop | .stop | .demoteOverflow | .launchFail | .parkFail | .restart => none

def CapTerm.code : CapTerm → Nat
  | .maxSpeed => 0
  | .modeSpeed => 1
  | .nearCap => 2
  | .reducedHigh => 3
  | .reducedWarm => 4

def DriveStatus.code : DriveStatus → Nat
  | .braked => 0
  | .releasing => 1
  | .tracking => 2
  | .fault => 3

def Command.code : Command → Nat
  | .brake => 0
  | .release => 1
  | .track => 2

/-- DOWN, UP, DEGRADED, LOST, as chapter 8's table of WLC's state lists them; no numbered rule gives the list (R173, R192; log 44). -/
def LinkState.code : LinkState → Nat
  | .down => 0
  | .up => 1
  | .degraded => 2
  | .lost => 3

def Completion.code : Completion → Nat
  | .ok => 0
  | .degraded => 1
  | .rejected => 2

def Pattern.code : Pattern → Nat
  | .off => 0
  | .blip => 1
  | .slow => 2
  | .fast => 3
  | .steady => 4

/-- R197's codes. -/
def Result.code : Result → Nat
  | .ok => 0x00
  | .busy => 0x01
  | .unknown => 0x02
  | .denied => 0x03
  | .badField => 0x04
  | .noZone => 0x05
  | .stale => 0x06
  | .tableFull => 0x07
  | .classFull => 0x08
  | .pendingFull => 0x09
  | .locked => 0x0A
  | .noCue => 0x0B
  | .inUse => 0x0C
  | .queueFull => 0x0D
  | .empty => 0x0E
  | .mode => 0x0F
  | .blocked => 0x10
  | .estop => 0x11
  | .causeActive => 0x12
  | .deviation => 0x13
  | .inconsistent => 0x14
  | .outOfRange => 0x15
  | .link => 0x16
  | .queryBusy => 0x17
  | .timeout => 0x18
  | .notConfigured => 0x19
  | .saving => 0x1A

/-- A winch's number, 1..4. -/
def winchNumber (w : Winch) : Nat := w.val + 1

/-- The winch a number names (R167, R168, R173, R207). -/
def winchOf (n : Byte) : Option Winch := if h : 1 ≤ n.toNat ∧ n.toNat ≤ 4 then some ⟨n.toNat - 1, by omega⟩ else none

/-! ## Frames -/

/-- The bytes of a console frame on the line (R192). -/
def TxFrame.wire (f : TxFrame) : List Byte :=
  let checked := [BitVec.ofNat 8 f.body.length, f.kind, f.tag] ++ f.body
  [0xA5#8] ++ checked ++ u16 (crc16 checked).toNat

/-- A console frame's length: 6 bytes beside its body (R192). -/
def TxFrame.size (f : TxFrame) : Nat := 6 + f.body.length

/-- The bytes of a TARGET frame on a winch link (R157, R158). -/
def Target.wire (w : Winch) (t : Target) : List Byte :=
  let checked := [BitVec.ofNat 8 (winchNumber w * 16 + t.seq.toNat),
      BitVec.ofNat 8 ((if t.query.isSome then 128 else 0) + t.command.code),
      BitVec.ofNat 8 (t.length.toNat / 65536), BitVec.ofNat 8 (t.length.toNat / 256), BitVec.ofNat 8 t.length.toNat] ++
    (match t.query with
     | none => []
     | some q => BitVec.ofNat 8 (q.id.toNat * 16 + q.code.toNat) :: q.args)
  [0xC3#8] ++ checked ++ u16 (crc16 checked).toNat

/-! ## Notices -/

/-- An entry of the stop-cause set: the cause, its winch where it has one, and which of R143's two it is, live (0) or released (1)
(R143, R192; log 11). -/
def causeBytes (e : CauseEntry) : List Byte :=
  u8 e.cause.code ++ optional (fun w => u8 (winchNumber w)) e.cause.winch? ++ u8 (if e.live then 0 else 1)

/-- STOP, WARNING, CAUTION (R200). -/
inductive Severity where
  | stop
  | warning
  | caution
deriving DecidableEq, Repr

/-- The position in R200's ranking (log 44). -/
def Severity.code : Severity → Nat
  | .stop => 0
  | .warning => 1
  | .caution => 2

/-- The severity of each condition number (R200). -/
def severityOf (number : Fin 43) : Severity :=
  if number.val < 36 then
    (match number.val % 9 with
     | 0 => .warning
     | 5 => .caution
     | 7 => .caution
     | 8 => .warning
     | _ => .stop)
  else
    (match number.val with
     | 36 => .stop
     | 37 => .warning
     | 38 => .warning
     | 39 => .caution
     | 40 => .caution
     | 41 => .warning
     | _ => .stop)

/-- The winch a condition number belongs to, 0 for a global condition (R200). -/
def conditionWinch (number : Fin 43) : Nat := if number.val < 36 then number.val / 9 + 1 else 0

def queueEntryBytes (e : QueueEntry) : List Byte := u8 e.handle ++ [e.generation] ++ u8 e.kind.code ++ u8 e.status.code

def conditionBytes (number : Fin 43) (c : Cond) : List Byte :=
  u8 number ++ u8 (conditionWinch number) ++ u8 (severityOf number).code ++ flag c.live ++ flag c.latched

/-- A notice's kind and body; what it carries in some cases only is an optional field (R199, R113, R43, R95, R108, R200; log 11). -/
def Notice.encode : Notice → Byte × List Byte
  | .modeChanged mode latch causes =>
    (0xF0#8, u8 mode.code ++ optional u8 mode.subState ++ flag latch ++
      optional (counted causeBytes) (if mode = .stopped then some causes else none))
  | .zoneChanged name cls kind after expiry =>
    (0xF1#8, u8 name.handle ++ [name.generation] ++ u8 cls.code ++ u8 kind.code ++ u8 (slotStateCode after) ++ optional word32 expiry)
  | .cueChanged handle generation kind after blockers =>
    (0xF2#8, u8 handle ++ [generation] ++ u8 kind.code ++ u8 after.code ++ u8 blockers)
  | .queueChanged count head halted => (0xF3#8, u8 count ++ optional queueEntryBytes head ++ flag halted)
  | .conditionRaised number c => (0xF4#8, conditionBytes number c)
  | .conditionCleared number c => (0xF5#8, conditionBytes number c)

end Sys2Proof.Machine
end

