-- ==== Sys2Proof/Machine/Operands.lean ====
section
/-! DEFINITION. The operands of the console requests: the request kinds with their fixed grants (R195), and the fields each request's
body carries, in the order and widths of R192 and of the request's own rule (log 11, log 23). -/

namespace Sys2Proof.Machine

/-- The groups of the working record by their position in R206's table; STORED, which R207 reads, follows them (log 11). -/
inductive Group where
  | geometry
  | motion
  | following
  | winch
  | sag
  | matrix
  | ports
  | stored
deriving DecidableEq, Repr

/-- The group a byte names, if any (R207, R208). -/
def groupOf (b : Byte) : Option Group :=
  match b.toNat with
  | 0 => some .geometry
  | 1 => some .motion
  | 2 => some .following
  | 3 => some .winch
  | 4 => some .sag
  | 5 => some .matrix
  | 6 => some .ports
  | 7 => some .stored
  | _ => none

/-- How many bytes a CONFIG WRITE of the group carries after the group byte; STORED has no fields of its own and is refused by CS
(R206, R208). -/
def Group.writeSize : Group → Option Nat
  | .geometry => some 76
  | .motion => some 28
  | .following => some 8
  | .winch => some 33
  | .sag => some 14
  | .matrix => some 20
  | .ports => some 4
  | .stored => none

/-- The roles a request kind is granted to by name; absent for a byte that is no request kind. Kinds the matrix governs are granted to
every role here (R195). -/
def fixedGrant (kind : Byte) : Option (List Port) :=
  let all : List Port := [.pilot, .director, .safety]
  match kind.toNat with
  | 0x10 | 0x11 | 0x12 | 0x13 | 0x14 | 0x15 | 0x16 | 0x17 | 0x18 | 0x19 => some all
  | 0x20 | 0x21 => some [.director, .safety]
  | 0x22 => some all
  | 0x28 | 0x29 | 0x2A | 0x2B => some all
  | 0x30 | 0x31 | 0x32 | 0x33 | 0x34 => some all
  | 0x40 => some [.pilot, .safety]
  | 0x41 => some [.pilot]
  | 0x42 => some [.pilot, .director]
  | 0x43 => some all
  | 0x44 | 0x45 => some [.safety]
  | 0x46 => some all
  | 0x50 => some all
  | 0x51 => some [.director, .safety]
  | 0x52 => some all
  | 0x58 | 0x59 => some all
  | 0x60 => some all
  | 0x61 | 0x62 | 0x63 => some [.safety]
  | _ => none

/-- A reading that takes the whole body: a body too short or too long does not fit (R195). -/
def whole {α : Type} (r : Option (α × List Byte)) : Option α :=
  match r with
  | some (a, []) => some a
  | _ => none

/-- A body without fields. -/
def noFields (request : Request) (body : List Byte) : Option Request := if body.isEmpty then some request else none

/-- A body of one byte. -/
def oneByte (make : Byte → Request) (body : List Byte) : Option Request := (whole (getU8 body)).map make

/-- A body of a handle and a generation (R19, R88). -/
def named (make : Byte → Byte → Request) (body : List Byte) : Option Request :=
  match body with
  | [h, g] => some (make h g)
  | _ => none

/-- ZONE PUT's body (R29). -/
def parseZonePut (body : List Byte) : Option Request := do
  let (cls, bs) ← getU8 body
  let (box, bs) ← getBox bs
  let (guard, bs) ← getI32 bs
  let (hyst, bs) ← getI32 bs
  let (cap, bs) ← getI32 bs
  let (group, bs) ← getOptional getU8 bs
  let life ← whole (getOptional getI32 bs)
  return .zonePut cls box guard hyst cap group life

/-- ZONE SHIFT's body (R31). -/
def parseZoneShift (body : List Byte) : Option Request := do
  let (h, bs) ← getU8 body
  let (g, bs) ← getU8 bs
  let (box, bs) ← getBox bs
  let (guard, bs) ← getOptional getI32 bs
  let (hyst, bs) ← getOptional getI32 bs
  let cap ← whole (getOptional getI32 bs)
  return .zoneShift h g box guard hyst cap

/-- ZONE RENEW's body (R33). -/
def parseZoneRenew (body : List Byte) : Option Request := do
  let (h, bs) ← getU8 body
  let (g, bs) ← getU8 bs
  let life ← whole (getI32 bs)
  return .zoneRenew h g life

/-- CUE STORE's body (R92). -/
def parseCueStore (body : List Byte) : Option Request := do
  let (h, bs) ← getU8 body
  let (label, bs) ← getText bs
  let (target, bs) ← getVec bs
  let (cruise, bs) ← getI32 bs
  let (tolerance, bs) ← getI32 bs
  let dwell ← whole (getI32 bs)
  return .cueStore h label target cruise tolerance dwell

/-- CONFIG READ's body: a winch number for WINCH alone, without a presence byte (R207; log 45). A body whose group is unknown goes to CS,
which refuses it. -/
def parseConfigRead (body : List Byte) : Option Request :=
  match body with
  | [] => none
  | g :: rest =>
    match groupOf g with
    | some .winch => (whole (getU8 rest)).map (fun w => .configRead g (some w))
    | some _ => if rest.isEmpty then some (.configRead g none) else none
    | none => some (.configRead g none)

/-- CONFIG WRITE's body (R208). A body whose group is unknown, or STORED, goes to CS, which refuses it. -/
def parseConfigWrite (body : List Byte) : Option Request :=
  match body with
  | [] => none
  | g :: rest =>
    match (groupOf g).bind Group.writeSize with
    | some n => if rest.length = n then some (.configWrite g rest) else none
    | none => some (.configWrite g rest)

/-- The request a body carries for its kind, absent where the body does not fit the kind's fields (R195). -/
def parseRequest (kind : Byte) (body : List Byte) : Option Request :=
  match kind.toNat with
  | 0x10 => parseZonePut body
  | 0x11 => parseZoneShift body
  | 0x12 => parseZoneRenew body
  | 0x13 => named .zoneSuspend body
  | 0x14 => named .zoneResume body
  | 0x15 => named .zoneDrop body
  | 0x16 => named .zoneRead body
  | 0x17 => named .zoneList body
  | 0x18 => oneByte .groupSuspend body
  | 0x19 => oneByte .groupResume body
  | 0x20 => noFields .clockFreeze body
  | 0x21 => noFields .clockThaw body
  | 0x22 => noFields .clockRead body
  | 0x28 => parseCueStore body
  | 0x29 => named .cueDrop body
  | 0x2A => named .cueRead body
  | 0x2B => oneByte .cueList body
  | 0x30 => (match body with | [h, g, k] => some (.queueAdd h g k) | _ => none)
  | 0x31 => noFields .queueTake body
  | 0x32 => noFields .queueSkip body
  | 0x33 => noFields .queueClear body
  | 0x34 => noFields .queueRead body
  | 0x40 => noFields .launch body
  | 0x41 => (whole (getVec body)).map .jog
  | 0x42 => noFields .hold body
  | 0x43 => noFields .returnDock body
  | 0x44 => noFields .stop body
  | 0x45 => noFields .resume body
  | 0x46 => noFields .flightRead body
  | 0x50 => oneByte .winchRead body
  | 0x51 => (match body with | [w, c, a, b, d, e] => some (.driveQuery w c [a, b, d, e]) | _ => none)
  | 0x52 => named .counters body
  | 0x58 => oneByte .conditionsRead body
  | 0x59 => oneByte .acknowledge body
  | 0x60 => parseConfigRead body
  | 0x61 => parseConfigWrite body
  | 0x62 => noFields .configSave body
  | 0x63 => noFields .restart body
  | _ => none

end Sys2Proof.Machine
end

