-- ==== Sys2Proof/Machine/Ops.lean ====
section
/-! DEFINITION. The operations that every family shares: table entries, part time and timers, the messages between blocks, the
transmit buffers (R198), taking a port's requests one after another (R194, R195), and giving a request its answer. -/

namespace Sys2Proof.Machine

/-- The outcome type of a command. -/
abbrev Outcome := Host.Outcome State Fault Refusal

/-- A table with one entry replaced. -/
abbrev put {α : Type} {n : Nat} (v : Vector α n) (i : Fin n) (x : α) : Vector α n := v.set i.val x i.isLt

/-- The handles of a table of n entries, in order. -/
abbrev handles (n : Nat) : List (Fin n) := List.finRange n

/-! ## Supply, lines and part time -/

/-- The part takes events: it is supplied and its reset line is released (R212). -/
def Part.running (q : Part) : Bool := q.supply && !q.resetLine

/-- An effect that a part which is not running does not have: it takes no event (R212). -/
def whileRunning (f : State → State) (s : State) : Outcome := .next (if s.part.running then f s else s)

/-- The part time `ms` after now (00_scope 5). -/
def afterMs (s : State) (ms : Nat) : PartTime := s.part.partTime + BitVec.ofNat 32 ms

/-- Whether a part time has come: it does not lie in the half of the circle ahead of now (R74). -/
def reached (now due : PartTime) : Bool := decide (remainingMs due now = 0)

/-- Part time moves forward to a due time that has not come (log 4). -/
def Part.advanceTo (q : Part) (due : PartTime) : Part :=
  if reached q.partTime due then q else { q with partTime := due }

/-- The state at the expiry of a timer: part time has reached its value (log 4). -/
def atExpiry (due : PartTime) (s : State) : State := { s with part := s.part.advanceTo due }

/-- The expiry of a timer: nothing where it is not running, else its effect at its time (00_scope 11; log 1, log 4). -/
def onExpiry (timer : Option PartTime) (effect : State → State) (s : State) : Outcome :=
  match timer with
  | some due => whileRunning (fun s => effect (atExpiry due s)) s
  | none => .next s

/-! ## Messages between blocks -/

/-- A notice is handed to CIF (R199). -/
def notify (n : Notice) (s : State) : State := { s with chan := { s.chan with notices := s.chan.notices ++ [n] } }

/-- Notices are handed to CIF in order (R199). -/
def notifyAll (ns : List Notice) (s : State) : State := { s with chan := { s.chan with notices := s.chan.notices ++ ns } }

/-- A block hands FC a message (R42, R55, R143, R162, R165, R183). -/
def tellFc (sender : Block) (m : FcMsg) (s : State) : State :=
  match sender with
  | .zt => { s with chan := { s.chan with ztToFc := s.chan.ztToFc ++ [m] } }
  | .wlc => { s with chan := { s.chan with wlcToFc := s.chan.wlcToFc ++ [m] } }
  | .lm => { s with chan := { s.chan with lmToFc := s.chan.lmToFc ++ [m] } }
  | .fc | .cs => s

/-- A block hands SU a message (R200, R202). -/
def tellSu (sender : Block) (m : SuMsg) (s : State) : State :=
  match sender with
  | .zt => { s with chan := { s.chan with ztToSu := s.chan.ztToSu ++ [m] } }
  | .wlc => { s with chan := { s.chan with wlcToSu := s.chan.wlcToSu ++ [m] } }
  | .lm => { s with chan := { s.chan with lmToSu := s.chan.lmToSu ++ [m] } }
  | .fc => { s with chan := { s.chan with fcToSu := s.chan.fcToSu ++ [m] } }
  | .cs => { s with chan := { s.chan with csToSu := s.chan.csToSu ++ [m] } }

/-- The messages a block has handed FC. -/
def Channels.toFc (c : Channels) : Block → List FcMsg
  | .zt => c.ztToFc
  | .wlc => c.wlcToFc
  | .lm => c.lmToFc
  | .fc | .cs => []

/-- FC has taken the oldest message of a block. -/
def Channels.dropFc (c : Channels) : Block → Channels
  | .zt => { c with ztToFc := c.ztToFc.tail }
  | .wlc => { c with wlcToFc := c.wlcToFc.tail }
  | .lm => { c with lmToFc := c.lmToFc.tail }
  | .fc | .cs => c

/-- The messages a block has handed SU. -/
def Channels.toSu (c : Channels) : Block → List SuMsg
  | .zt => c.ztToSu
  | .wlc => c.wlcToSu
  | .lm => c.lmToSu
  | .fc => c.fcToSu
  | .cs => c.csToSu

/-- SU has taken the oldest message of a block. -/
def Channels.dropSu (c : Channels) : Block → Channels
  | .zt => { c with ztToSu := c.ztToSu.tail }
  | .wlc => { c with wlcToSu := c.wlcToSu.tail }
  | .lm => { c with lmToSu := c.lmToSu.tail }
  | .fc => { c with fcToSu := c.fcToSu.tail }
  | .cs => { c with csToSu := c.csToSu.tail }

/-- FC takes the oldest message of a block where it is of the kind that the command names (log 1, log 2). -/
def takeFc (sender : Block) (effect : FcMsg → Option (State → State)) (s : State) : Outcome :=
  match s.chan.toFc sender with
  | [] => .next s
  | m :: _ =>
    match effect m with
    | none => .next s
    | some f => whileRunning (fun s => f { s with chan := s.chan.dropFc sender }) s

/-- SU takes the oldest message of a block where it is of the kind that the command names (log 1, log 2). -/
def takeSu (sender : Block) (effect : SuMsg → Option (State → State)) (s : State) : Outcome :=
  match s.chan.toSu sender with
  | [] => .next s
  | m :: _ =>
    match effect m with
    | none => .next s
    | some f => whileRunning (fun s => f { s with chan := s.chan.dropSu sender }) s

/-! ## Ports -/

/-- A console port's state. -/
def Cif.port (c : Cif) : Port → PortState
  | .pilot => c.pilot
  | .director => c.director
  | .safety => c.safety

/-- CIF with one port's state replaced. -/
def Cif.setPort (c : Cif) (p : Port) (q : PortState) : Cif :=
  match p with
  | .pilot => { c with pilot := q }
  | .director => { c with director := q }
  | .safety => { c with safety := q }

/-- One port's state is changed. -/
def withPort (p : Port) (f : PortState → PortState) (s : State) : State :=
  { s with cif := s.cif.setPort p (f (s.cif.port p)) }

/-- The size of a transmit buffer (R198). -/
def txSize : Nat := 512

/-- The bytes that a transmit buffer holds: its frames but for those already sent of the oldest (R198; log 13). -/
def PortState.used (q : PortState) : Nat := (q.tx.map TxFrame.size).sum - q.txSent

/-- A frame of n bytes fits in the free space (R198). -/
def PortState.fits (q : PortState) (n : Nat) : Bool := decide (q.used + n ≤ txSize)

/-- A response is waiting for room: an owner's (R198), or a refusal of CIF's own (log 46). -/
def PortState.responseWaits (q : PortState) : Bool :=
  match q.inProgress with
  | some ⟨_, _, .waiting _⟩ => true
  | _ => false

/-- Frames without the newest notice among them, if there is one. -/
def removeNewestNotice : List TxFrame → Option (List TxFrame)
  | [] => none
  | f :: rest =>
    match removeNewestNotice rest with
    | some rest' => some (f :: rest')
    | none => if f.notice then some rest else none

/-- The buffer without its newest notice that is not begun, if it holds one; the overrun flag is set for it (R198). -/
def PortState.removeNotice (q : PortState) : Option PortState :=
  match q.tx with
  | [] => none
  | f :: rest =>
    if q.txSent = 0 then (removeNewestNotice (f :: rest)).map (fun tx => { q with tx := tx, overrun := true })
    else (removeNewestNotice rest).map (fun tx => { q with tx := f :: tx, overrun := true })

/-- Notices that are not begun are removed, newest first, until n bytes fit or none is left (R198); `fuel` bounds their number. -/
def PortState.makeRoom (n : Nat) : Nat → PortState → PortState
  | 0, q => q
  | fuel + 1, q =>
    if q.fits n then q
    else
      match q.removeNotice with
      | none => q
      | some q' => q'.makeRoom n fuel

/-- A response's content as a frame can carry it: 238 bytes beside the result code and the overrun byte (R192; log 12). -/
def carried (content : List Byte) : List Byte :=
  if content.length ≤ 238 then content else (Config.overlongContent content).take 238

/-- The frame of a response, with the port's overrun flag in body byte 1 (R192, R198). -/
def Response.frame (r : Response) (overrun : Bool) : TxFrame :=
  { notice := false, kind := r.kind, tag := r.tag, body := u8 r.result.code ++ flag overrun ++ carried r.content }

/-- A response's length in the buffer. -/
def Response.size (r : Response) : Nat := (r.frame false).size

/-- A response is placed, notices giving way to it; nothing but their removal where it still does not fit. The flag says whether it was
appended; a response that is appended reports and clears the overrun flag (R198). -/
def PortState.place (r : Response) (q : PortState) : PortState × Bool :=
  let q := q.makeRoom r.size q.tx.length
  if q.fits r.size then ({ q with tx := q.tx ++ [r.frame q.overrun], overrun := false }, true) else (q, false)

/-- A BUSY response that does not fit is dropped and sets the overrun flag (R198). -/
def PortState.placeBusy (kind tag : Byte) (q : PortState) : PortState :=
  let (q, placed) := q.place { kind := kind + 0x80#8, tag := tag, result := .busy, content := [] }
  if placed then q else { q with overrun := true }

/-- A notice is appended, or dropped with the overrun flag set (R198). -/
def PortState.placeNotice (n : Notice) (q : PortState) : PortState :=
  let f : TxFrame := { notice := true, kind := n.encode.1, tag := 0, body := n.encode.2 }
  if q.responseWaits || !q.fits f.size then { q with overrun := true } else { q with tx := q.tx ++ [f] }

/-! ## Requests -/

/-- CIF's checks of a request in their order: kind, fixed grant, body length (R195). -/
def checkRequest (p : Port) (r : QueuedRequest) : Request ⊕ Result :=
  match fixedGrant r.kind with
  | none => .inr .unknown
  | some granted =>
    if p ∉ granted then .inr .denied
    else
      match parseRequest r.kind r.body with
      | none => .inr .badField
      | some request => .inl request

/-- CIF takes the waiting requests from the head on until one is in progress: handed to its owner, or refused with its response waiting
for room as an owner's response waits (log 46). A request refused by a check ends as soon as its response is placed (R194, R195). -/
def PortState.takeFrom (p : Port) : List QueuedRequest → PortState → PortState
  | [], q => { q with queue := [] }
  | r :: rest, q =>
    match checkRequest p r with
    | .inl request => { q with queue := rest, inProgress := some ⟨r.kind, r.tag, .handed request⟩ }
    | .inr refusal =>
      let response : Response := { kind := r.kind + 0x80#8, tag := r.tag, result := refusal, content := [] }
      let (q, placed) := q.place response
      if placed then q.takeFrom p rest
      else { q with queue := rest, inProgress := some ⟨r.kind, r.tag, .waiting response⟩ }

/-- CIF takes the next head, if the port has no request in progress; none while a RESTART is outstanding (R194, R211). -/
def PortState.takeNext (p : Port) (restarting : Bool) (q : PortState) : PortState :=
  if restarting || q.inProgress.isSome then q else q.takeFrom p q.queue

/-- A response that waits is placed where it fits now; its request ends and the next head is taken (R194, R198). -/
def PortState.retry (p : Port) (restarting : Bool) (q : PortState) : PortState :=
  match q.inProgress with
  | some ⟨_, _, .waiting response⟩ =>
    let (q, placed) := q.place response
    if placed then { q with inProgress := none }.takeNext p restarting else q
  | _ => q

/-- The port's request in progress, where it is handed and its owner may take it: none is taken between the acceptance of a RESTART and
the start (R195, R211; log 16). -/
def handedRequest (p : Port) (s : State) : Option Request :=
  if s.part.running && !s.part.restartAccepted then
    (match (s.cif.port p).inProgress with
     | some ⟨_, _, .handed request⟩ => some request
     | _ => none)
  else none

/-- The request in progress on a port is answered: its response is placed, or waits for room (R194, R198). -/
def PortState.respond (p : Port) (restarting : Bool) (result : Result) (content : List Byte) (q : PortState) : PortState :=
  match q.inProgress with
  | none => q
  | some ⟨kind, tag, _⟩ =>
    { q with
      inProgress := some ⟨kind, tag, .waiting { kind := kind + 0x80#8, tag := tag, result := result, content := content }⟩ }.retry
        p restarting

/-- The request in progress on a port gets its answer. -/
def respond (p : Port) (result : Result) (content : List Byte) (s : State) : State :=
  withPort p (PortState.respond p s.part.restartAccepted result content) s

/-- An owner's answer to a request: the result, the content of the response and the state its effect leaves (R195). -/
structure Answer where
  result : Result
  content : List Byte
  state : State

/-- A refusal that leaves everything unchanged. -/
def refuse (result : Result) (s : State) : Answer := ⟨result, [], s⟩

/-- A request at its owner: the owner's effect, then the response. Nothing where the port's request in progress is not the one the
command names (log 1). -/
def request (p : Port) (owner : Request → State → Option Answer) (s : State) : Outcome :=
  match handedRequest p s with
  | none => .next s
  | some r =>
    match owner r s with
    | none => .next s
    | some a => .next (respond p a.result a.content a.state)

end Sys2Proof.Machine
end

