-- ==== Sys2Proof/Machine/Flags.lean ====
section
/-! DEFINITION. The conditions' live and latched flags at SU, the highest live severity, and the selection of the warning output's
pattern from them (R200, R202). -/

namespace Sys2Proof.Machine

/-- The number of a winch's condition by its index (R200). -/
def winchCondition (w : Winch) (index : Fin 9) : Fin 43 := ⟨9 * w.val + index.val, by omega⟩

def condLinkDegraded (w : Winch) : Fin 43 := winchCondition w 0
def condLinkLost (w : Winch) : Fin 43 := winchCondition w 1
def condDriveFault (w : Winch) : Fin 43 := winchCondition w 2
def condFollow (w : Winch) : Fin 43 := winchCondition w 3
def condSlack (w : Winch) : Fin 43 := winchCondition w 4
def condTensionHigh (w : Winch) : Fin 43 := winchCondition w 5
def condOverload (w : Winch) : Fin 43 := winchCondition w 6
def condMotorWarm (w : Winch) : Fin 43 := winchCondition w 7
def condMotorHot (w : Winch) : Fin 43 := winchCondition w 8
def condEstop : Fin 43 := 36
def condEvictBlocked : Fin 43 := 37
def condReturnBlocked : Fin 43 := 38
def condPinned : Fin 43 := 39
def condLowPass : Fin 43 := 40
def condConfigDefault : Fin 43 := 41
def condDemoteOverflow : Fin 43 := 42

/-- A condition of some severity is live. -/
def Su.liveAt (u : Su) (severity : Severity) : Bool :=
  (handles 43).any (fun n => u.conds[n].live && decide (severityOf n = severity))

/-- The highest live severity: STOP above WARNING above CAUTION (R200). -/
def Su.highest (u : Su) : Option Severity :=
  if u.liveAt .stop then some .stop
  else if u.liveAt .warning then some .warning
  else if u.liveAt .caution then some .caution
  else none

/-- The wanted pattern (R202). -/
def Su.wanted (u : Su) : Pattern :=
  match u.highest with
  | some .stop => .steady
  | some .warning => .fast
  | some .caution => .slow
  | none => if u.airborne then .blip else .off

/-- The period of a pattern in ms, where it has one (R202). -/
def Pattern.period : Pattern → Option Nat
  | .off => none
  | .blip => some 2000
  | .slow => some 1000
  | .fast => some 250
  | .steady => none

/-- How long the line is on in each period, in ms (R202). -/
def Pattern.onTime : Pattern → Nat
  | .off => 0
  | .blip => 100
  | .slow => 500
  | .fast => 125
  | .steady => 0

/-- The level of the warning output line (R202). -/
def Su.line (u : Su) (now : PartTime) : Bool :=
  match u.driven with
  | .off => false
  | .steady => true
  | pattern => decide ((now - u.periodStart).toNat < pattern.onTime)

/-- The pattern's selection at a change of a live flag or of the airborne indication: at once, or left to the period's end (R202). -/
def Su.reselect (now : PartTime) (u : Su) : Su :=
  if u.wanted ≠ u.driven ∧ (u.wanted = .steady ∨ u.driven = .off ∨ u.driven = .steady) then
    { u with driven := u.wanted, periodStart := now }
  else u

/-- SU takes a raise (R200). -/
def raiseCondition (n : Fin 43) (s : State) : State :=
  if s.su.conds[n].live then s
  else notify (.conditionRaised n ⟨true, true⟩)
    { s with su := { s.su with conds := put s.su.conds n ⟨true, true⟩ }.reselect s.part.partTime }

/-- SU takes a clear: the latched flag stays (R200). -/
def clearCondition (n : Fin 43) (s : State) : State :=
  if s.su.conds[n].live then
    notify (.conditionCleared n ⟨false, s.su.conds[n].latched⟩)
      { s with su := { s.su with conds := put s.su.conds n ⟨false, s.su.conds[n].latched⟩ }.reselect s.part.partTime }
  else s

/-- SU takes the airborne indication (R202). -/
def setAirborne (set : Bool) (s : State) : State :=
  if s.su.airborne = set then s
  else { s with su := { s.su with airborne := set }.reselect s.part.partTime }

end Sys2Proof.Machine
end

