-- ==== Sys2Proof/Machine/LoadMonitor.lean ====
section
/-! DEFINITION. The Load Monitor: calibration, the comparators and what they hand on, the follow check, the sag allowance, and the
slack and follow timers (chapter 9). -/

namespace Sys2Proof.Machine

/-- The tension of a raw value: exact, truncated toward zero, clamped to 0..20,000 N (R177). -/
def tensionOf (c : WinchCfg) (raw : Nat) : Int :=
  max 0 (min 20000 (((raw : Int) * c.scale + c.offset * 32768).tdiv (32768 * 2 ^ c.shift)))

/-- The new state of a comparator that enters above a limit and leaves at or below the limit less its hysteresis (R178, R180). -/
def comparator (live : Bool) (limit hyst value : Int) : Bool :=
  if live then decide (limit - hyst < value) else decide (limit < value)

/-- One winch's state in LM is changed. -/
def setLm (w : Winch) (m : LmWinch) (s : State) : State := { s with lm := { s.lm with winches := put s.lm.winches w m } }

/-- The winch's fields of the working record. -/
def winchCfg (s : State) (w : Winch) : WinchCfg := s.cs.record.winch[w]

/-! ## What a change hands on -/

/-- LM hands SU a change of a condition (R182). -/
def lmCondition (n : Fin 43) (live : Bool) (s : State) : State := tellSu .lm (if live then .raise n else .clear n) s

/-- LM hands FC a raise or a clear of a cause (R182). -/
def lmCause (c : Cause) (live : Bool) (s : State) : State := tellFc .lm (if live then .raise c else .clear c) s

/-- The three flags follow their comparators; each is handed to FC at a change of its value (R183). -/
def updateHigh (s : State) : State :=
  let b := (handles 4).any (fun w => s.lm.winches[w].tensionHigh)
  if s.lm.high = b then s else tellFc .lm (.high b) { s with lm := { s.lm with high := b } }

def updateWarm (s : State) : State :=
  let b := (handles 4).any (fun w => s.lm.winches[w].motorWarm)
  if s.lm.warm = b then s else tellFc .lm (.warm b) { s with lm := { s.lm with warm := b } }

def updateHot (s : State) : State :=
  let b := (handles 4).any (fun w => s.lm.winches[w].motorHot)
  if s.lm.hot = b then s else tellFc .lm (.hot b) { s with lm := { s.lm with hot := b } }

/-! ## Comparators -/

/-- OVERLOAD (R178, R182). -/
def applyOverload (w : Winch) (m : LoadSet) (s : State) : State :=
  let c := winchCfg s w
  let old := s.lm.winches[w]
  let live := comparator old.overload c.overLim c.tensHyst m.tension
  if live = old.overload then s
  else lmCause (.overload w) live (lmCondition (condOverload w) live (setLm w { old with overload := live } s))

/-- TENSION_HIGH (R178, R182, R183). -/
def applyTensionHigh (w : Winch) (m : LoadSet) (s : State) : State :=
  let c := winchCfg s w
  let old := s.lm.winches[w]
  let live := comparator old.tensionHigh c.highLim c.tensHyst m.tension
  if live = old.tensionHigh then s
  else updateHigh (lmCondition (condTensionHigh w) live (setLm w { old with tensionHigh := live } s))

/-- SLACK at a set or a write (R179, R182). -/
def applySlack (w : Winch) (m : LoadSet) (s : State) : State :=
  let c := winchCfg s w
  let old := s.lm.winches[w]
  match old.slack with
  | .clear =>
    if m.targetCommand = .track ∧ m.tension < c.slackLim then
      setLm w { old with slack := .timing (afterMs s c.slackTime.toNat) } s
    else s
  | .timing _ =>
    if m.targetCommand = .track ∧ m.tension < c.slackLim then s else setLm w { old with slack := .clear } s
  | .live =>
    if c.slackLim + c.tensHyst ≤ m.tension then
      lmCause (.slack w) false (lmCondition (condSlack w) false (setLm w { old with slack := .clear } s))
    else s

/-- The temperature a source field chooses (R180). -/
def sourceTemp (m : LoadSet) : TempSource → Int
  | .winding => m.winding
  | .heatsink => m.heatsink

/-- MOTOR_WARM (R180, R182, R183). -/
def applyMotorWarm (w : Winch) (m : LoadSet) (s : State) : State :=
  let c := winchCfg s w
  let old := s.lm.winches[w]
  let live := comparator old.motorWarm c.warmLim c.tempHyst (sourceTemp m c.warmSrc)
  if live = old.motorWarm then s
  else updateWarm (lmCondition (condMotorWarm w) live (setLm w { old with motorWarm := live } s))

/-- MOTOR_HOT (R180, R182, R183). -/
def applyMotorHot (w : Winch) (m : LoadSet) (s : State) : State :=
  let c := winchCfg s w
  let old := s.lm.winches[w]
  let live := comparator old.motorHot c.hotLim c.tempHyst (sourceTemp m c.hotSrc)
  if live = old.motorHot then s
  else updateHot (lmCondition (condMotorHot w) live (setLm w { old with motorHot := live } s))

/-- The deviation of a set (R181). -/
def LoadSet.deviation (m : LoadSet) : Int := ((m.length - m.targetLength).natAbs : Int)

/-- FOLLOW at a set or a write (R181, R182). -/
def applyFollow (w : Winch) (m : LoadSet) (s : State) : State :=
  let f := s.cs.record.following
  let old := s.lm.winches[w]
  let out := decide (m.targetCommand = .track) && decide (f.followTol < m.deviation)
  match old.follow with
  | .clear => if out then setLm w { old with follow := .timing (afterMs s f.followTime.toNat) } s else s
  | .timing _ => if out then s else setLm w { old with follow := .clear } s
  | .live =>
    if out then s
    else lmCause (.follow w) false (lmCondition (condFollow w) false (setLm w { old with follow := .clear } s))

/-- The three tension comparators on the held tension (R176, R187). -/
def applyTension (w : Winch) (s : State) : State :=
  match s.lm.winches[w].meas with
  | some m => applySlack w m (applyTensionHigh w m (applyOverload w m s))
  | none => s

/-- The two temperature comparators on the held temperatures (R176, R187). -/
def applyTemperature (w : Winch) (s : State) : State :=
  match s.lm.winches[w].meas with
  | some m => applyMotorHot w m (applyMotorWarm w m s)
  | none => s

/-- The follow check on the held length and answered target (R176, R187). -/
def applyFollowCheck (w : Winch) (s : State) : State :=
  match s.lm.winches[w].meas with
  | some m => applyFollow w m s
  | none => s

/-! ## The sag allowance -/

/-- The least of the tensions held, with the lowest-numbered winch that gives it (R184, R188). -/
def Lm.tMin (l : Lm) : Option (Int × Winch) :=
  (handles 4).foldl (fun best w =>
    match l.winches[w].meas with
    | some m => (match best with | some (t, v) => if m.tension < t then some (m.tension, w) else some (t, v) | none => some (m.tension, w))
    | none => best) none

/-- µm of allowance for each newton below T_REF; none while OFF (R184). -/
def SagDiv.umPerNewton : SagDiv → Option Int
  | .n5 => some 200
  | .n10 => some 100
  | .n20 => some 50
  | .n40 => some 25
  | .off => none

/-- A* of the tensions held (R184). -/
def allowanceTarget (c : SagCfg) (l : Lm) : Int :=
  match SagDiv.umPerNewton c.sagDiv, l.tMin with
  | some k, some (t, _) => max 0 (min 2000000 ((c.tRef - t) * k))
  | _, _ => 0

/-- A* is recomputed (R184). -/
def recomputeTarget (s : State) : State := { s with lm := { s.lm with aStar := allowanceTarget s.cs.record.sag s.lm } }

/-- A after a round (R185). -/
def allowanceAfter (c : SagCfg) (a aStar : Int) : Int :=
  if c.direct then aStar
  else if a < aStar then min aStar (a + c.riseRate * 5)
  else if aStar < a then max aStar (a - c.fallRate * 5)
  else a

/-- A round is complete: LM moves A once (R162, R185). -/
def completeRound (s : State) : State :=
  { s with lm := { s.lm with a := allowanceAfter s.cs.record.sag s.lm.a s.lm.aStar } }

/-! ## A set of measurements -/

/-- LM takes a set: store, calibrate, comparators, follow check, allowance target (R176). -/
def takeSet (w : Winch) (m : Measurement) (answered : Int × Command) (s : State) : State :=
  let set : LoadSet :=
    { raw := m.raw, tension := tensionOf (winchCfg s w) m.raw, winding := m.winding, heatsink := m.heatsink, length := m.length,
      targetLength := answered.1, targetCommand := answered.2 }
  recomputeTarget (applyFollowCheck w (applyTemperature w (applyTension w (setLm w { s.lm.winches[w] with meas := some set } s))))

/-! ## Configuration writes -/

/-- A write of a winch's fields: the tension from the held raw value, the comparators, A* (R187). -/
def winchWritten (w : Winch) (s : State) : State :=
  let old := s.lm.winches[w]
  let s1 := setLm w { old with meas := old.meas.map (fun m => { m with tension := tensionOf (winchCfg s w) m.raw }) } s
  recomputeTarget (applyTemperature w (applyTension w s1))

/-- A write of FOLLOW_TOL: the follow check on every winch, winch 1 first (R187; log 39). -/
def followingWritten (s : State) : State := (handles 4).foldl (fun s w => applyFollowCheck w s) s

/-! ## Timers -/

/-- A timed comparator's timer, where it runs. -/
def TimedComparator.timer : TimedComparator → Option PartTime
  | .timing due => some due
  | .clear | .live => none

/-- The slack timer of a winch expires (R179, R182). -/
def execSlackTimerExpiry (w : Winch) (s : State) : Outcome :=
  onExpiry s.lm.winches[w].slack.timer (fun s =>
    lmCause (.slack w) true (lmCondition (condSlack w) true (setLm w { s.lm.winches[w] with slack := .live } s))) s

/-- The follow timer of a winch expires (R181, R182). -/
def execFollowTimerExpiry (w : Winch) (s : State) : Outcome :=
  onExpiry s.lm.winches[w].follow.timer (fun s =>
    lmCause (.follow w) true (lmCondition (condFollow w) true (setLm w { s.lm.winches[w] with follow := .live } s))) s

end Sys2Proof.Machine
end

