-- ==== Sys2Proof/Machine/WinchLink.lean ====
section
/-! DEFINITION. The Winch Link Controller: rounds, the receiver and the judging of STATE frames, the watchdog, the counters, drive
queries and WINCH READ (chapter 8, R188). -/

namespace Sys2Proof.Machine

/-- One link is changed. -/
def setLink (w : Winch) (l : Link) (s : State) : State := { s with wlc := put s.wlc w l }

/-- A counter adds one and stays at 65,535 (R166, R193). -/
def saturate (n : Nat) : Nat := if n < 65535 then n + 1 else n

/-- An exchange closes: its class's counter and the window count it (R160, R164, R166). -/
def Link.close (l : Link) (good : Bool) : Link :=
  { l with
    exchangeOpen := false, windowClosed := l.windowClosed + 1, windowGood := l.windowGood + (if good then 1 else 0),
    counters :=
      if good then { l.counters with good := saturate l.counters.good }
      else { l.counters with missed := saturate l.counters.missed } }

/-! ## The end of a query, and the watchdog -/

/-- A query ends: its slot is emptied and its request answered in the same event (R170 to R172). -/
def endQuery (w : Winch) (q : QuerySlot) (result : Result) (content : List Byte) (s : State) : State :=
  respond q.port result content (setLink w { s.wlc[w] with query := none } s)

/-- The exchange of the 40th TARGET that carried the query has closed without ending it (R171). -/
def Link.timedOut (l : Link) : Bool :=
  match l.query with
  | some q => !l.exchangeOpen && decide (40 ≤ q.carried)
  | none => false

/-- The timeout of a query, where it is due (R171). -/
def timeoutQuery (w : Winch) (s : State) : State :=
  match s.wlc[w].query with
  | some q => if s.wlc[w].timedOut then endQuery w q .timeout [] s else s
  | none => s

/-- The bad-window count and the link state that a judgement gives (R164). -/
def judgement (good : Bool) (bad : Nat) (state : LinkState) : Nat × LinkState :=
  if good then (0, .up)
  else if state = .lost then (3, .lost)
  else if bad + 1 < 3 then (bad + 1, .degraded)
  else (3, .lost)

/-- The conditions of the states left and entered: the raise, then the clear (R165; log 39). -/
def linkConditions (w : Winch) (left entered : LinkState) (s : State) : State :=
  let s :=
    match entered with
    | .degraded => tellSu .wlc (.raise (condLinkDegraded w)) s
    | .lost => tellSu .wlc (.raise (condLinkLost w)) s
    | .down | .up => s
  match left with
  | .degraded => tellSu .wlc (.clear (condLinkDegraded w)) s
  | .lost => tellSu .wlc (.clear (condLinkLost w)) s
  | .down | .up => s

/-- FC hears of the new state and of the LINK_LOST cause (R165). -/
def linkToFc (w : Winch) (left entered : LinkState) (s : State) : State :=
  let s := tellFc .wlc (.linkState w entered) s
  let s := if entered = .lost then tellFc .wlc (.raise (.linkLost w)) s else s
  if left = .lost then tellFc .wlc (.clear (.linkLost w)) s else s

/-- A query in flight on a link that becomes LOST fails with LINK (R165, R172). -/
def failQueryIfLost (w : Winch) (entered : LinkState) (s : State) : State :=
  match s.wlc[w].query with
  | some q => if entered = .lost then endQuery w q .link [] s else s
  | none => s

/-- The judgement of a window that has closed 20 exchanges (R164, R165). -/
def judgeWindow (w : Winch) (s : State) : State :=
  let l := s.wlc[w]
  let (bad, state) := judgement (decide ((winchCfg s w).wdMin ≤ l.windowGood)) l.badWindows l.state
  if state = l.state then setLink w { l with windowClosed := 0, windowGood := 0, badWindows := bad } s
  else
    linkToFc w l.state state (linkConditions w l.state state
      (failQueryIfLost w state (setLink w { l with windowClosed := 0, windowGood := 0, badWindows := bad, state := state } s)))

/-- What an exchange's closure has made due: the timeout, then the window's end (R164, R171; log 10). -/
def settleLink (w : Winch) (s : State) : State :=
  let s := timeoutQuery w s
  if 20 ≤ s.wlc[w].windowClosed then judgeWindow w s else s

/-- The window of a link ends (R164). -/
def execWindowEnd (w : Winch) (s : State) : Outcome :=
  if 20 ≤ s.wlc[w].windowClosed then whileRunning (settleLink w) s else .next s

/-- A query times out (R171). -/
def execQueryTimeout (w : Winch) (s : State) : Outcome :=
  if s.wlc[w].timedOut then whileRunning (timeoutQuery w) s else .next s

/-! ## A round -/

/-- An exchange still open at the next round closes as MISSED (R155, R160). -/
def missOpen (w : Winch) (s : State) : State :=
  let s := settleLink w s
  if s.wlc[w].exchangeOpen then settleLink w (setLink w (s.wlc[w].close false) s) else s

/-- The TARGET that a link sends next (R155 to R157, R169). -/
def Link.nextTarget (l : Link) : Target :=
  { seq := l.seq + 1, length := l.heldLength, command := l.heldCommand,
    query := l.query.map (fun q => { id := q.id, code := q.code, args := q.args }) }

/-- A link sends its TARGET and opens an exchange (R155, R169). -/
def Link.send (l : Link) : Link :=
  { l with
    seq := l.seq + 1, exchangeOpen := true, last := some l.nextTarget,
    query := l.query.map (fun q => { q with carried := q.carried + 1 }) }

/-- Some link's exchange is open. -/
def anyOpen (s : State) : Bool := (handles 4).any (fun w => s.wlc[w].exchangeOpen)

/-- A round: open exchanges close as MISSED and LM hears that the round before is complete, then each link sends (R155, R162). -/
def startRound (s : State) : State :=
  let wasOpen := anyOpen s
  let s := (handles 4).foldl (fun s w => missOpen w s) s
  let s := if wasOpen then completeRound s else s
  { s with wlc := s.wlc.map Link.send }

/-! ## STATE frames -/

/-- A query answer (R159). -/
structure QueryAnswer where
  id : BitVec 3
  status : Nat
  data : List Byte

/-- A STATE frame's fields (R159). -/
structure StateFields where
  completion : Completion
  echo : BitVec 4
  drive : DriveStatus
  meas : Measurement
  answer : Option QueryAnswer

/-- The byte at a place of a frame. -/
def byteAt (f : List Byte) (i : Nat) : Nat := (f.getD i 0).toNat

/-- The whole length of a frame, once it is known; 0 for one that ends at a data count above 8 (R159). -/
def frameLength (f : List Byte) : Option Nat :=
  if f.length < 3 then none
  else if !(f.getD 2 0).msb then some 12
  else if f.length < 12 then none
  else if 8 < byteAt f 11 then some 0
  else some (14 + byteAt f 11)

def completionOf (n : Nat) : Option Completion :=
  match n with
  | 0 => some .ok
  | 1 => some .degraded
  | 2 => some .rejected
  | _ => none

def driveStatusOf (n : Nat) : DriveStatus :=
  match n with
  | 0 => .braked
  | 1 => .releasing
  | 2 => .tracking
  | _ => .fault

/-- The CRC of a whole frame matches (R158). -/
def frameCrcMatches (f : List Byte) : Bool :=
  let n := f.length - 2
  decide ((crc16 ((f.take n).drop 1)).toNat = byteAt f n * 256 + byteAt f (n + 1))

/-- The answer part of a whole frame. Absent with `some none`; `none` where its status holds 3 (R159). -/
def answerOf (f : List Byte) : Option (Option QueryAnswer) :=
  if !(f.getD 2 0).msb then some none
  else if byteAt f 10 % 4 = 3 then none
  else some (some { id := BitVec.ofNat 3 (byteAt f 10 / 16), status := byteAt f 10 % 4, data := (f.drop 12).take (byteAt f 11) })

/-- The fields of a whole frame that passes its check (R159). -/
def frameFields (f : List Byte) : Option StateFields :=
  if !frameCrcMatches f then none
  else
    let length := byteAt f 3 * 65536 + byteAt f 4 * 256 + byteAt f 5
    if 400000 < length then none
    else
      match completionOf (byteAt f 1 / 16 % 4), answerOf f with
      | some c, some a =>
        some
          { completion := c, echo := BitVec.ofNat 4 (byteAt f 1), drive := driveStatusOf (byteAt f 2 % 4),
            meas :=
              { length := length, raw := byteAt f 6 * 256 + byteAt f 7, winding := (f.getD 8 0).toInt, heatsink := (f.getD 9 0).toInt },
            answer := a }
      | _, _ => none

/-- A frame that fails its check (R159, R166). -/
def badCheck (w : Winch) (s : State) : State :=
  let l := s.wlc[w]
  setLink w { l with counters := { l.counters with badCheck := saturate l.counters.badCheck } } s

/-- A frame that is discarded as stale (R160, R166). -/
def staleSeq (w : Winch) (s : State) : State :=
  let l := s.wlc[w]
  setLink w { l with counters := { l.counters with staleSeq := saturate l.counters.staleSeq } } s

/-- The measurements of a closing frame (R162). -/
def takeMeasurements (w : Winch) (m : Measurement) (answered : Int × Command) (s : State) : State :=
  takeSet w m answered
    { setLink w { s.wlc[w] with meas := some m } s with fc := { s.fc with lengths := put s.fc.lengths w (some m.length) } }

/-- The rejected run after a completion code (R163). -/
def runAfter (run : Nat) (c : Completion) : Nat := if c = .rejected then min 3 (run + 1) else 0

/-- DRIVE_FAULT's raise and clear (R163). -/
def applyDriveFault (w : Winch) (c : Completion) (d : DriveStatus) (s : State) : State :=
  let l := s.wlc[w]
  if l.driveFault = false ∧ (3 ≤ l.rejectedRun ∨ d = .fault) then
    tellFc .wlc (.raise (.driveFault w)) (tellSu .wlc (.raise (condDriveFault w)) (setLink w { l with driveFault := true } s))
  else if l.driveFault = true ∧ c = .ok ∧ d ≠ .fault then
    tellFc .wlc (.clear (.driveFault w)) (tellSu .wlc (.clear (condDriveFault w)) (setLink w { l with driveFault := false } s))
  else s

/-- A query answer meets the slot (R170). -/
def applyAnswer (w : Winch) (a : Option QueryAnswer) (s : State) : State :=
  match a, s.wlc[w].query with
  | some a, some q =>
    if a.id = q.id ∧ a.status ≠ 0 then
      endQuery w q .ok (u8 (winchNumber w) ++ u8 a.id.toNat ++ u8 a.status ++ counted (fun b => [b]) a.data) s
    else s
  | _, _ => s

/-- The status part of a closing frame (R162, R163, R170). -/
def takeStatus (w : Winch) (f : StateFields) (s : State) : State :=
  let l := s.wlc[w]
  let s := setLink w { l with status := some (f.completion, f.drive), rejectedRun := runAfter l.rejectedRun f.completion } s
  applyAnswer w f.answer (applyDriveFault w f.completion f.drive (tellFc .wlc (.driveStatus w f.drive) s))

/-- Which parts of a closing frame are taken: the status part, the measurements (R161). -/
def partsTaken (c : Completion) (p : Policy) : Bool × Bool :=
  match c, p with
  | .degraded, .miss => (false, false)
  | .degraded, .keep => (true, false)
  | _, _ => (true, true)

/-- A frame closes the open exchange (R160 to R162, R166). -/
def closeByFrame (w : Winch) (t : Target) (f : StateFields) (s : State) : State :=
  let parts := partsTaken f.completion (winchCfg s w).policy
  let l := s.wlc[w].close parts.1
  let l := if f.completion = .degraded then { l with counters := { l.counters with degraded := saturate l.counters.degraded } } else l
  let s := setLink w l s
  let s := if parts.2 then takeMeasurements w f.meas (t.length, t.command) s else s
  let s := if parts.1 then takeStatus w f s else s
  if anyOpen s then s else completeRound s

/-- A frame that passes its check is judged against the link's exchange (R160). -/
def judgeFrame (w : Winch) (f : StateFields) (s : State) : State :=
  match s.wlc[w].last with
  | some t => if s.wlc[w].exchangeOpen = true ∧ f.echo = t.seq then closeByFrame w t f s else staleSeq w s
  | none => staleSeq w s

/-- A frame of known length has come to its end (R159). -/
def frameEnds (w : Winch) (f : List Byte) (s : State) : State :=
  let s := settleLink w (setLink w { s.wlc[w] with rx := [] } s)
  match frameFields f with
  | some fields => if frameLength f = some 0 then badCheck w s else judgeFrame w fields s
  | none => badCheck w s

/-- The link's receiver takes a byte; no byte is marked for a missing stop bit (R159; log 48). -/
def linkByte (w : Winch) (b : Byte) (s : State) : State :=
  let l := s.wlc[w]
  if l.rx.isEmpty then (if b = 0x3C#8 then setLink w { l with rx := [b] } s else s)
  else
    let f := l.rx ++ [b]
    match frameLength f with
    | some n => if f.length < n then setLink w { l with rx := f } s else frameEnds w f s
    | none => setLink w { l with rx := f } s

/-- Bytes received on a link (R159, R160; logs 27 and 48). -/
def execStateFrame (w : Winch) (bytes : List Byte) (s : State) : Outcome :=
  whileRunning (fun s => bytes.foldl (fun s b => linkByte w b s) s) s

/-- More than 100 µs pass inside a frame: the bytes so far are discarded (R159, R166). -/
def execStateByteGap (w : Winch) (s : State) : Outcome :=
  whileRunning (fun s => if s.wlc[w].rx.isEmpty then s else badCheck w (setLink w { s.wlc[w] with rx := [] } s)) s

/-! ## COUNTERS and DRIVE QUERY -/

/-- A flag byte: 0 or 1 (R192; log 23). -/
def flagOf (b : Byte) : Option Bool := if b = 0 then some false else if b = 1 then some true else none

/-- The five counters in the order of R167. -/
def Counters.bytes (c : Counters) : List Byte := u16 c.good ++ u16 c.badCheck ++ u16 c.missed ++ u16 c.staleSeq ++ u16 c.degraded

/-- COUNTERS (R167). -/
def countersRequest (winch clear : Byte) (s : State) : Answer :=
  match winchOf winch, flagOf clear with
  | some w, some c =>
    let l := s.wlc[w]
    ⟨.ok, u8 (winchNumber w) ++ l.counters.bytes ++ flag c,
      if c then setLink w { l with counters := ⟨0, 0, 0, 0, 0⟩ } s else s⟩
  | _, _ => refuse .badField s

/-- COUNTERS at WLC (R167). -/
def execCounters (p : Port) (s : State) : Outcome :=
  request p (fun r s =>
    match r with
    | .counters winch clear => some (countersRequest winch clear s)
    | _ => none) s

/-- The checks of DRIVE QUERY (R168). -/
def queryCheck (winch code : Byte) (s : State) : Result ⊕ Winch :=
  match winchOf winch with
  | none => .inl .badField
  | some w =>
    if 15 < code.toNat then .inl .badField
    else if s.wlc[w].query.isSome then .inl .queryBusy
    else if s.wlc[w].state ≠ .up then .inl .link
    else .inr w

/-- The slot of an accepted query (R168). -/
def Link.accept (l : Link) (code : Byte) (args : List Byte) (port : Port) (tag : Byte) : Link :=
  { l with
    query := some { id := l.nextQueryId, code := code.setWidth 4, args := args, carried := 0, port := port, tag := tag },
    nextQueryId := l.nextQueryId + 1 }

/-- The port's request is held until its query ends (R168, R195). -/
def holdRequestOf (p : Port) (s : State) : State :=
  withPort p (fun q => { q with inProgress := q.inProgress.map (fun i => { i with stage := .inFlight }) }) s

/-- The tag of the port's request in progress. -/
def requestTag (p : Port) (s : State) : Byte :=
  match (s.cif.port p).inProgress with
  | some i => i.tag
  | none => 0

/-- DRIVE QUERY (R168). -/
def driveQueryRequest (p : Port) (winch code : Byte) (args : List Byte) (s : State) : State :=
  let s := match winchOf winch with | some w => settleLink w s | none => s
  match queryCheck winch code s with
  | .inl result => respond p result [] s
  | .inr w => holdRequestOf p (setLink w (s.wlc[w].accept code args p (requestTag p s)) s)

/-- DRIVE QUERY at WLC (R168). -/
def execDriveQuery (p : Port) (s : State) : Outcome :=
  match handedRequest p s with
  | some (.driveQuery winch code args) => .next (driveQueryRequest p winch code args s)
  | _ => .next s

/-! ## WINCH READ -/

/-- WLC's part of a WINCH READ (R173). The last TARGET with its exchange's flag is an optional field, absent before the first (log 11); the
raw tension takes two bytes (log 45). -/
def linkBytes (c : WinchCfg) (l : Link) : List Byte :=
  u8 l.state.code ++ u8 l.badWindows ++ u8 l.windowClosed ++ u8 l.windowGood ++ u8 c.wdMin ++ u8 c.policy.code ++
  optional (fun t => u8 t.seq.toNat ++ i32 t.length ++ u8 t.command.code ++ flag l.exchangeOpen) l.last ++
  optional (fun q => u8 q.1.code ++ u8 q.2.code) l.status ++
  optional (fun m => i32 m.length ++ u16 m.raw ++ i8 m.winding ++ i8 m.heatsink) l.meas ++
  u8 l.rejectedRun ++ flag l.driveFault ++
  optional (fun q => u8 q.id.toNat ++ u8 q.code.toNat ++ u8 q.carried) l.query ++ u8 l.nextQueryId.toNat

/-- The state of SLACK or FOLLOW, and after it the time remaining while TIMING (R188; logs 11 and 45). -/
def timedBytes (now : PartTime) : TimedComparator → List Byte
  | .clear => u8 0 ++ u8 0
  | .timing due => u8 1 ++ u8 1 ++ i32 (remainingMs due now)
  | .live => u8 2 ++ u8 0

/-- LM's part of a WINCH READ (R188). The raw tension takes two bytes, and SLACK's state and time stand before FOLLOW's (log 45). -/
def loadBytes (now : PartTime) (l : Lm) (w : Winch) : List Byte :=
  let m := l.winches[w]
  optional (fun q => u16 q.raw ++ i32 q.tension) m.meas ++ optional (fun q => i8 q.winding ++ i8 q.heatsink) m.meas ++
  flag m.overload ++ flag m.tensionHigh ++ flag m.motorWarm ++ flag m.motorHot ++
  timedBytes now m.slack ++ timedBytes now m.follow ++
  optional (fun q => i32 q.deviation ++ u8 q.targetCommand.code) m.meas ++
  i32 (l.a / 1000) ++ i32 (l.aStar / 1000) ++ optional (fun t => i32 t.1 ++ u8 (winchNumber t.2)) l.tMin

/-- WINCH READ (R173, R188). -/
def winchRead (winch : Byte) (s : State) : Answer :=
  match winchOf winch with
  | none => refuse .badField s
  | some w =>
    let s := settleLink w s
    ⟨.ok, linkBytes (winchCfg s w) s.wlc[w] ++ loadBytes s.part.partTime s.lm w, s⟩

/-- WINCH READ at WLC with LM (R173, R188). -/
def execWinchRead (p : Port) (s : State) : Outcome :=
  request p (fun r s =>
    match r with
    | .winchRead winch => some (winchRead winch s)
    | _ => none) s

end Sys2Proof.Machine
end

