-- ==== Sys2Proof/Machine/Console.lean ====
section
/-! DEFINITION. The console ports: the receivers, the arrival of requests, bytes leaving the transmit buffers, and the placing of notices
(R193, R194, R198, R199). -/

namespace Sys2Proof.Machine

/-- A frame is discarded and counted (R193). -/
def PortState.discard (q : PortState) : PortState :=
  { q with rx := .hunt, gapTimer := none, badFrames := saturate q.badFrames }

/-- A request arrives: it joins the queue, or is answered BUSY (R194). -/
def PortState.arrive (p : Port) (restarting : Bool) (r : QueuedRequest) (q : PortState) : PortState :=
  if q.queue.length < 4 then { q with queue := q.queue ++ [r] }.takeNext p restarting else q.placeBusy r.kind r.tag

/-- The CRC of a console frame matches: over the length byte to the last body byte (R192). -/
def consoleCrcMatches (n kind tag : Byte) (body : List Byte) (high low : Byte) : Bool :=
  decide ((crc16 (n :: kind :: tag :: body)).toNat = high.toNat * 256 + low.toNat)

/-- The receiver's state after its gap timer is restarted (R193). -/
def PortState.goOn (rx : Receiver) (due : PartTime) (q : PortState) : PortState := { q with rx := rx, gapTimer := some due }

/-- A byte in each state of the receiver; `due` is 10 ms ahead (R193). -/
def PortState.takeByte (p : Port) (restarting : Bool) (due : PartTime) (b : Byte) (q : PortState) : PortState :=
  match q.rx with
  | .hunt => if b = 0xA5#8 then q.goOn .length due else q
  | .length => if b.toNat ≤ 240 then q.goOn (.header b none) due else q.discard
  | .header n none => q.goOn (.header n (some b)) due
  | .header n (some kind) => q.goOn (if n = 0 then .check n kind b [] none else .body n kind b []) due
  | .body n kind tag taken =>
    q.goOn (if taken.length + 1 < n.toNat then .body n kind tag (taken ++ [b]) else .check n kind tag (taken ++ [b]) none) due
  | .check n kind tag taken none => q.goOn (.check n kind tag taken (some b)) due
  | .check n kind tag taken (some high) =>
    if consoleCrcMatches n kind tag taken high b then
      { q with rx := .hunt, gapTimer := none }.arrive p restarting { kind := kind, tag := tag, body := taken }
    else q.discard

/-- A byte without a stop bit: discarded in HUNT, discards the frame elsewhere (R193). -/
def PortState.framingError (q : PortState) : PortState :=
  match q.rx with
  | .hunt => q
  | _ => q.discard

/-- What the line brings, taken by the receiver (R193). -/
def PortState.takeLine (p : Port) (restarting : Bool) (due : PartTime) (q : PortState) (b : LineByte) : PortState :=
  match b with
  | .byte b => q.takeByte p restarting due b
  | .framingError => q.framingError

/-- Bytes received on a port (R193; log 27). -/
def receive (p : Port) (bytes : List LineByte) (s : State) : State :=
  withPort p (fun q => bytes.foldl (PortState.takeLine p s.part.restartAccepted (afterMs s 10)) q) s

/-- A frame's bytes up to the one that hands it on (R193, R194). -/
def execRequestArrival (p : Port) (bytes : List LineByte) (s : State) : Outcome := whileRunning (receive p bytes) s

/-- A frame's bytes up to the one that discards it (R193). -/
def execBadFrame (p : Port) (bytes : List LineByte) (s : State) : Outcome := whileRunning (receive p bytes) s

/-- The gap timer expires: the frame is discarded (R193). -/
def execGapTimerExpiry (p : Port) (s : State) : Outcome :=
  onExpiry (s.cif.port p).gapTimer (withPort p PortState.discard) s

/-- The buffer after `total` bytes of its frames have been sent: the frames left, and the bytes sent of the first (R198). -/
def sentFrames : Nat → List TxFrame → List TxFrame × Nat
  | _, [] => ([], 0)
  | total, f :: rest => if f.size ≤ total then sentFrames (total - f.size) rest else (f :: rest, total)

/-- Bytes leave a port's buffer; a response that waits is placed where it fits now (R194, R198). -/
def PortState.send (p : Port) (restarting : Bool) (sent : Nat) (q : PortState) : PortState :=
  let (tx, txSent) := sentFrames (q.txSent + sent) q.tx
  { q with tx := tx, txSent := txSent }.retry p restarting

/-- Bytes have left a port's transmit buffer (R198; log 13). -/
def execTransmitRoomFreed (p : Port) (sent : Nat) (s : State) : Outcome :=
  whileRunning (fun s => withPort p (PortState.send p s.part.restartAccepted sent) s) s

/-- A notice is placed in each of the three buffers (R199). -/
def placeNoticeOnAll (n : Notice) (c : Cif) : Cif :=
  { c with pilot := c.pilot.placeNotice n, director := c.director.placeNotice n, safety := c.safety.placeNotice n }

/-- CIF takes the oldest notice handed to it (R198, R199). -/
def execNoticeHanded (s : State) : Outcome :=
  match s.chan.notices with
  | [] => .next s
  | n :: rest =>
    whileRunning (fun s => { s with chan := { s.chan with notices := rest }, cif := placeNoticeOnAll n s.cif }) s

end Sys2Proof.Machine
end

