-- ==== Sys2Proof/Machine/Geometry.lean ====
section
/-! DEFINITION. Chapter 1: the working volume, the envelope, clearance, exit and closing directions, cable lengths, LOCATE, the dock and
the pitch rectangle, the consistency of the geometry fields; and the path check of R99 over them. -/

namespace Sys2Proof.Machine

/-- A box in whole mm as the same box in µm. -/
def boxUm (b : Box) : Box :=
  ⟨1000 * b.xlo, 1000 * b.xhi, 1000 * b.ylo, 1000 * b.yhi, 1000 * b.zlo, 1000 * b.zhi⟩

/-- A point in whole mm is taken as that many thousand µm (R4). -/
def pointUm (p : Vec3) : Vec3 := p.scale 1000

/-- The anchor of a winch, in µm (R1). -/
def anchor (g : GeometryCfg) (w : Winch) : Vec3 :=
  pointUm ⟨if w = 1 ∨ w = 2 then g.xSize else 0, if w = 2 ∨ w = 3 then g.ySize else 0, g.height⟩

/-- A point in µm inside the working volume grown by `wider` mm on every face (R2). -/
def insideVolume (g : GeometryCfg) (wider : Int) (p : Vec3) : Bool :=
  decide (1000 * (-wider) ≤ p.x) && decide (p.x ≤ 1000 * (g.xSize + wider)) &&
  decide (1000 * (-wider) ≤ p.y) && decide (p.y ≤ 1000 * (g.ySize + wider)) &&
  decide (1000 * (g.floor - wider) ≤ p.z) && decide (p.z ≤ 1000 * (g.height - g.ceilingClear + wider))

/-- A box that lies within the working volume (R3). -/
def boxWithinVolume (g : GeometryCfg) (b : Box) : Bool :=
  decide (0 ≤ b.xlo) && decide (b.xhi ≤ g.xSize) && decide (0 ≤ b.ylo) && decide (b.yhi ≤ g.ySize) &&
  decide (0 ≤ b.zlo) && decide (b.zhi ≤ g.height - g.ceilingClear)

/-- The envelope for P and A, in µm (R5). -/
def envelope (g : GeometryCfg) (p : Vec3) (a : Int) : Box :=
  ⟨p.x - 1000 * g.rH, p.x + 1000 * g.rH, p.y - 1000 * g.rH, p.y + 1000 * g.rH,
   p.z - 1000 * g.rB - a, p.z + 1000 * g.rT⟩

/-- The overlap on each axis (R6). -/
def overlaps (e z : Box) : Vec3 :=
  ⟨min e.xhi z.xhi - max e.xlo z.xlo, min e.yhi z.yhi - max e.ylo z.ylo, min e.zhi z.zhi - max e.zlo z.zlo⟩

/-- R6. -/
inductive Arrangement where
  | apart
  | touching
  | overlapping
deriving DecidableEq, Repr

/-- R6. -/
def arrangement (e z : Box) : Arrangement :=
  let o := overlaps e z
  if o.x < 0 ∨ o.y < 0 ∨ o.z < 0 then .apart
  else if o.x = 0 ∨ o.y = 0 ∨ o.z = 0 then .touching
  else .overlapping

/-- The gap on each axis: minus a negative overlap, else zero (R6). -/
def gaps (e z : Box) : Vec3 :=
  let o := overlaps e z
  ⟨max 0 (-o.x), max 0 (-o.y), max 0 (-o.z)⟩

/-- The exit directions in the order that decides between equal distances (R8). -/
def exitDirs : List ExitDir := [.zUp, .xDown, .xUp, .yDown, .yUp]

/-- The exit distance along a direction (R8). -/
def exitDistance (e z : Box) : ExitDir → Int
  | .zUp => z.zhi - e.zlo
  | .xDown => e.xhi - z.xlo
  | .xUp => z.xhi - e.xlo
  | .yDown => e.yhi - z.ylo
  | .yUp => z.yhi - e.ylo

/-- The direction of the least exit distance, the first of equals (R8). -/
def exitDirection (e z : Box) : ExitDir :=
  exitDirs.foldl (fun best d => if exitDistance e z d < exitDistance e z best then d else best) .zUp

/-- The depth of an overlap (R8). -/
def depth (e z : Box) : Int := exitDistance e z (exitDirection e z)

/-- The clearance in whole mm of two boxes in µm, rounded toward the smaller value (R7). -/
def clearanceOf (e z : Box) : Int :=
  match arrangement e z with
  | .apart => ((isqrt (gaps e z).norm2 / 1000 : Nat) : Int)
  | .touching => 0
  | .overlapping => (-depth e z) / 1000

/-- The clearance of the envelope at P with A to a zone box in mm (R5, R7). -/
def clearance (g : GeometryCfg) (p : Vec3) (a : Int) (box : Box) : Int := clearanceOf (envelope g p a) (boxUm box)

/-- +1 when Z lies on the positive side of E on an axis, −1 otherwise (R9). -/
def side (eHi zLo : Int) : Int := if eHi ≤ zLo then 1 else -1

/-- A vector along the closing direction, not scaled to unit length (R9). -/
def closingVector (e z : Box) : Vec3 :=
  let o := overlaps e z
  let s : Vec3 := ⟨side e.xhi z.xlo, side e.yhi z.ylo, side e.zhi z.zlo⟩
  match arrangement e z with
  | .apart => ⟨s.x * (gaps e z).x, s.y * (gaps e z).y, s.z * (gaps e z).z⟩
  | .touching => ⟨if o.x = 0 then s.x else 0, if o.y = 0 then s.y else 0, if o.z = 0 then s.z else 0⟩
  | .overlapping =>
    match exitDirection e z with
    | .zUp => ⟨0, 0, -1⟩
    | .xDown => ⟨1, 0, 0⟩
    | .xUp => ⟨-1, 0, 0⟩
    | .yDown => ⟨0, 1, 0⟩
    | .yUp => ⟨0, -1, 0⟩

/-- A distance in µm, given by its square, to the nearest whole mm, half up (R10). -/
def nearestMm (square : Nat) : Int := (((isqrt square + 500) / 1000 : Nat) : Int)

/-- The cable length target of a winch at P, in mm (R10). -/
def cableTarget (g : GeometryCfg) (p : Vec3) (w : Winch) : Int := nearestMm (p.dist2 (anchor g w))

/-- LOCATE's outcome (R12, R150): the point; the test of R12 that found it out of range, by its number there (log 44); the measured and the
predicted L3. -/
inductive Located where
  | at (p : Vec3)
  | outOfRange (test : Nat)
  | inconsistent (measured predicted : Int)
deriving DecidableEq, Repr

/-- LOCATE on four measured lengths in mm (R11, R12). -/
def locate (g : GeometryCfg) (followTol : Int) (l1 l2 l3 l4 : Int) : Located :=
  let x := roundNearest .locateX (1000 * (l1 ^ 2 - l2 ^ 2 + g.xSize ^ 2)) (2 * g.xSize)
  let y := roundNearest .locateY (1000 * (l1 ^ 2 - l4 ^ 2 + g.ySize ^ 2)) (2 * g.ySize)
  let r := (1000 * l1) ^ 2 - x ^ 2 - y ^ 2
  if r < 0 then .outOfRange 1
  else
    -- a root of a whole number is never half way between two, so this rounding has no tie
    let root : Nat := if isqrt r.toNat * (isqrt r.toNat + 1) < r.toNat then isqrt r.toNat + 1 else isqrt r.toNat
    let p : Vec3 := ⟨x, y, 1000 * g.height - root⟩
    if !insideVolume g 1000 p then .outOfRange 2
    else
      let predicted := cableTarget g p 2
      if followTol < (l3 - predicted).natAbs then .inconsistent l3 predicted else .at p

/-- P is at the dock (R13). -/
def atDock (g : GeometryCfg) (p : Vec3) : Bool := decide ((p.dist2 (pointUm g.dock) : Int) ≤ (1000 * g.dockTol) ^ 2)

/-- The envelope at P with A is low over the pitch (R14). -/
def lowOverPitch (g : GeometryCfg) (p : Vec3) (a : Int) : Bool :=
  decide ((envelope g p a).zlo < 1000 * g.cautionZ) &&
  decide (1000 * g.pxLo ≤ p.x) && decide (p.x ≤ 1000 * g.pxHi) &&
  decide (1000 * g.pyLo ≤ p.y) && decide (p.y ≤ 1000 * g.pyHi)

/-- A value in a range, bounds included. -/
def within (lo hi v : Int) : Bool := decide (lo ≤ v) && decide (v ≤ hi)

/-- Every geometry field in its own range (R15's table). -/
def geometryInRange (g : GeometryCfg) : Bool :=
  within 20000 200000 g.xSize && within 20000 150000 g.ySize && within 10000 60000 g.height && within 1500 10000 g.floor &&
  within 2000 20000 g.ceilingClear && within 300 2000 g.rH && within 200 3000 g.rB && within 0 1000 g.rT &&
  within 200 2000 g.standoff && within 50 500 g.dockTol && within 0 20000 g.cautionZ

/-- The consistency of geometry fields with the boxes of the zones and the targets of the cues (R15). -/
def geometryConsistent (g : GeometryCfg) (boxes : List Box) (targets : List Vec3) : Bool :=
  geometryInRange g &&
  decide (2000 ≤ g.height - g.ceilingClear - g.floor) &&
  insideVolume g 0 (pointUm g.dock) &&
  within g.floor (g.height - g.ceilingClear) g.transitZ &&
  decide (g.pxLo < g.pxHi) && decide (g.pyLo < g.pyHi) && decide (0 ≤ g.pxLo) && decide (g.pxHi ≤ g.xSize) &&
  decide (0 ≤ g.pyLo) && decide (g.pyHi ≤ g.ySize) &&
  boxes.all (boxWithinVolume g) &&
  targets.all (fun t => insideVolume g 0 (pointUm t))

/-! ## The path check -/

/-- A failing path check: the squared distance of the failing sample from S in µm² and the zone it fails against (R99). -/
structure PathFailure where
  distance2 : Nat
  zone : ZoneHandle
deriving DecidableEq, Repr

/-- The first zone of a set to which the envelope at a point comes below STANDOFF (R99; the first in the set's order: log 31). -/
def firstTooClose (g : GeometryCfg) (a : Int) (zones : List ForceZone) (p : Vec3) : Option ForceZone :=
  zones.find? (fun z => decide (clearance g p a z.box < g.standoff))

/-- The sample 250 · k mm from S toward T, each coordinate held to the nearest µm (R99). -/
def samplePoint (s t : Vec3) (k : Nat) : Vec3 :=
  let n := s.dist2 t
  let d := t.sub s
  s.add ⟨roundNearestOverRoot .sample (d.x * (250000 * k)) n, roundNearestOverRoot .sample (d.y * (250000 * k)) n,
    roundNearestOverRoot .sample (d.z * (250000 * k)) n⟩

/-- The samples of a segment with their squared distances from S: every 250 mm, and T (R99). -/
def pathSamples (s t : Vec3) : List (Nat × Vec3) :=
  let n := s.dist2 t
  let last := isqrt n / 250000
  let steps := (List.range (last + 1)).map (fun k => ((250000 * k) ^ 2, if k = 0 then s else samplePoint s t k))
  if (250000 * last) ^ 2 = n then steps else steps ++ [(n, t)]

/-- The path check from S to T against a set of zones: nothing when it passes, else the first failing sample (R99). -/
def pathCheck (g : GeometryCfg) (a : Int) (zones : List ForceZone) (s t : Vec3) : Option PathFailure :=
  (pathSamples s t).findSome? (fun q => (firstTooClose g a zones q.2).map (fun z => ⟨q.1, z.handle⟩))

end Sys2Proof.Machine
end

