-- ==== Sys2Proof/Machine/Modes.lean ====
section
/-! DEFINITION. The flight mode and what changes with it: the handing of targets (R123), the closing of modes, the entries to HOLD,
EVICT, RETURN, LAUNCHING, SETTLE, PARKED and STOPPED, the choice of an exit, and the run start that CT and FC take together
(chapters 3, 5, 6 and 7). Every entry that can follow another in one event is written from the inner to the outer. -/

namespace Sys2Proof.Machine

/-! ## The mode's command and the handing to WLC -/

/-- The command in TARGET frames (R111). -/
def Mode.command : Mode → Command
  | .parked | .stopped | .ret .settle => .brake
  | .launching => .release
  | .hold | .jog | .cue | .evict | .ret .rise | .ret .traverse | .ret .descend => .track

/-- A leg of a return: RETURN but for SETTLE. -/
def Mode.isLeg : Mode → Bool
  | .ret .settle => false
  | .ret _ => true
  | _ => false

/-- The length target of a winch: of P, or the last accepted length while the position is invalid (R10, R123). -/
def lengthTarget (s : State) (w : Winch) : Int :=
  match s.fc.p with
  | some p => cableTarget s.cs.record.geometry p w
  | none => s.fc.lengths[w].getD 0

/-- The command handed: the mode's, BRAKE while the position is invalid (R111, R123). -/
def handedCommand (s : State) : Command := if s.fc.p.isSome then s.fc.mode.command else .brake

/-- FC hands WLC a held target for all four links (R111, R123, R155). -/
def handTargets (s : State) : State :=
  { s with
    wlc := Vector.ofFn (fun w : Winch => { s.wlc[w] with heldLength := lengthTarget s w, heldCommand := handedCommand s }) }

/-- A change of mode or sub-state: the targets are handed, SU hears of a change to or from PARKED, and MODE CHANGED is sent (R111, R113,
R202). -/
def setMode (m : Mode) (s : State) : State :=
  let s' := handTargets { s with fc := { s.fc with mode := m } }
  let s' := if decide (s.fc.mode = .parked) = decide (m = .parked) then s' else tellSu .fc (.airborne (decide (m ≠ .parked))) s'
  notify (.modeChanged m s.fc.latch s.fc.causes) s'

/-! ## FC's conditions -/

/-- FC raises or clears a condition of its own at SU where that changes it (R68, R122, R124, R138; log 18). -/
def setEvictBlocked (live : Bool) (s : State) : State :=
  if s.fc.evictBlocked = live then s
  else tellSu .fc (if live then .raise condEvictBlocked else .clear condEvictBlocked) { s with fc := { s.fc with evictBlocked := live } }

def setReturnBlocked (live : Bool) (s : State) : State :=
  if s.fc.returnBlocked = live then s
  else tellSu .fc (if live then .raise condReturnBlocked else .clear condReturnBlocked)
    { s with fc := { s.fc with returnBlocked := live } }

def setPinned (live : Bool) (s : State) : State :=
  if s.fc.pinned = live then s
  else tellSu .fc (if live then .raise condPinned else .clear condPinned) { s with fc := { s.fc with pinned := live } }

def setLowPass (live : Bool) (s : State) : State :=
  if s.fc.lowPass = live then s
  else tellSu .fc (if live then .raise condLowPass else .clear condLowPass) { s with fc := { s.fc with lowPass := live } }

/-- The return latch is cleared, and RETURN_BLOCKED with it (R134, R138). -/
def clearLatch (s : State) : State := setReturnBlocked false { s with fc := { s.fc with latch := false } }

/-- The return latch is set (R134). -/
def setLatch (s : State) : State := { s with fc := { s.fc with latch := true } }

/-! ## The shot queue at a run -/

/-- The head entry takes a status (R96). -/
def setHead (status : EntryStatus) (q : List QueueEntry) : List QueueEntry :=
  match q with
  | [] => []
  | e :: rest => { e with status := status } :: rest

/-- The head takes a status that halts the queue: BLOCKED, CUT or ABORTED (R97). -/
def haltHead (status : EntryStatus) (s : State) : State :=
  { s with ct := { s.ct with queue := setHead status s.ct.queue, halted := true } }

/-- The notice of the queue as it stands (R108). -/
def Ct.queueNotice (t : Ct) : Notice := .queueChanged t.queue.length t.queue.head? t.halted

/-- One QUEUE CHANGED for an event that changed the entries, a status or the halted flag (R108; log 14). It is handed last, after the
event's MODE CHANGED (R102, R103, R145; log 39). -/
def reportQueue (before : Ct) (s : State) : State :=
  if s.ct.queue = before.queue ∧ s.ct.halted = before.halted then s else notify s.ct.queueNotice s

/-- The cue of a slot. -/
def Ct.cue (t : Ct) (h : CueHandle) : Option Cue := t.slots[h].cue

/-- How a run start ended (R100): RUNNING; BLOCKED at the READY check, or at the path check with its failing sample. -/
inductive StartOutcome where
  | started
  | notReady
  | pathBlocked (f : PathFailure)
deriving DecidableEq, Repr

/-- The zone set of a run start and of a re-check: every zone FC holds (R99). -/
def checkPath (s : State) (goal : Vec3) : Option PathFailure :=
  match s.fc.p with
  | some p => pathCheck s.cs.record.geometry s.fc.lastA s.fc.zones p goal
  | none => none

/-- The run record of an entry's cue (R100). -/
def runRecord (e : QueueEntry) (c : Cue) : RunRecord :=
  { handle := e.handle, generation := e.generation, target := c.target, cruise := c.cruise, tolerance := c.tolerance }

/-- A run start on the head entry: READY check, path check, start (R100). -/
def runStart (e : QueueEntry) (s : State) : State × StartOutcome :=
  match s.ct.cue e.handle with
  | none => (haltHead .blocked s, .notReady)
  | some c =>
    if c.blockers ≠ 0 then (haltHead .blocked s, .notReady)
    else
      match checkPath s (pointUm c.target) with
      | some f => (haltHead .blocked s, .pathBlocked f)
      | none =>
        (setMode .cue
          { s with
            ct := { s.ct with queue := setHead .running s.ct.queue, dwell := none },
            fc := { s.fc with run := some (runRecord e c) } }, .started)

/-- CT's start test (R101). -/
def startTest (s : State) : State :=
  match s.ct.queue with
  | [] => s
  | e :: _ =>
    if s.fc.mode = .hold ∧ s.fc.latch = false ∧ s.ct.halted = false ∧ e.kind = .auto ∧ s.ct.dwell = none then (runStart e s).1
    else s

/-! ## Closing a mode -/

/-- JOG, CUE or a leg is closed on the way to another mode (R65, R68, R102, R135, R138). -/
def closeMode (s : State) : State :=
  match s.fc.mode with
  | .jog => { s with fc := { s.fc with jogDemand := .zero, deadman := none } }
  | .cue => let s := haltHead .aborted s; { s with fc := { s.fc with run := none } }
  | .ret _ => { s with fc := { s.fc with legGoal := none } }
  | .parked | .launching | .hold | .evict | .stopped => s

/-! ## The choice of an exit -/

/-- A direction is usable unless the subject lies wholly beyond the envelope's face in it (R62). -/
def usable (e z : Box) : ExitDir → Bool
  | .zUp => decide (z.zlo < e.zhi)
  | .xDown => decide (e.xlo < z.xhi)
  | .xUp => decide (z.xlo < e.xhi)
  | .yDown => decide (e.ylo < z.yhi)
  | .yUp => decide (z.ylo < e.yhi)

/-- G²: the squares of the gaps on the two other axes (R62). -/
def otherGaps (e z : Box) (d : ExitDir) : Int :=
  let g := gaps e z
  match d with
  | .zUp => g.x ^ 2 + g.y ^ 2
  | .xDown | .xUp => g.y ^ 2 + g.z ^ 2
  | .yDown | .yUp => g.x ^ 2 + g.z ^ 2

/-- The root term of the move length, rounded up to the next µm (R62); free where its radicand is negative (log 19). -/
def exitRoot (radicand : Int) : Int := if radicand < 0 then Config.evictionRoot radicand else csqrt radicand.toNat

/-- The move length along a direction, in µm (R62). -/
def moveLength (g : GeometryCfg) (e z : Box) (d : ExitDir) : Int :=
  exitDistance e z d + exitRoot ((1000 * (g.standoff + 100)) ^ 2 - otherGaps e z d)

/-- P moved along a direction (R62). -/
def moved (p : Vec3) (d : ExitDir) (n : Int) : Vec3 :=
  match d with
  | .zUp => ⟨p.x, p.y, p.z + n⟩
  | .xDown => ⟨p.x - n, p.y, p.z⟩
  | .xUp => ⟨p.x + n, p.y, p.z⟩
  | .yDown => ⟨p.x, p.y - n, p.z⟩
  | .yUp => ⟨p.x, p.y + n, p.z⟩

/-- The ARMED zones other than the subject (R63, R66). -/
def armedOthers (zones : List ForceZone) (subject : ZoneName) : List ForceZone :=
  zones.filter (fun z => decide (z.state = .armed) && decide (z.handle ≠ subject.handle))

/-- The three tests of a move target (R63). -/
def validTarget (g : GeometryCfg) (a : Int) (zones : List ForceZone) (subject : ZoneName) (p target : Vec3) : Bool :=
  insideVolume g 0 target &&
  (pathCheck g a (armedOthers zones subject) p target).isNone &&
  zones.all (fun z => decide (z.state ≠ .pending) || decide (z.handle = subject.handle) ||
    decide (clearance g p a z.box ≤ clearance g target a z.box))

/-- The records of the usable directions with a valid target, in the order of R8 (R62, R63). -/
def exits (g : GeometryCfg) (a : Int) (zones : List ForceZone) (subject : ZoneName) (box : Box) (p : Vec3) : List EvictRecord :=
  let e := envelope g p a
  let z := boxUm box
  exitDirs.filterMap (fun d =>
    if usable e z d then
      let n := moveLength g e z d
      let target := moved p d n
      if validTarget g a zones subject p target then some { subject := subject, dir := d, target := target, length := n } else none
    else none)

/-- The record of least move length, the first of equals (R64). -/
def leastExit : List EvictRecord → Option EvictRecord
  | [] => none
  | r :: rest => some (rest.foldl (fun best r => if r.length < best.length then r else best) r)

/-- The zone that FC's copy holds for a name. -/
def subjectZone (zones : List ForceZone) (n : ZoneName) : Option ForceZone :=
  zones.find? (fun z => decide (z.handle = n.handle) && decide (z.generation = n.generation))

/-- A choice of exit: absent where the start test's conditions on the position and the subject fail, else the chosen record, if any
(R61 to R64). -/
def chooseExit (s : State) : Option (Option EvictRecord) :=
  match s.fc.p, s.fc.subject with
  | some p, some n =>
    (subjectZone s.fc.zones n).map (fun z => leastExit (exits s.cs.record.geometry s.fc.lastA s.fc.zones n z.box p))
  | _, _ => none

/-- Flight enters EVICT with a record: the mode left is closed, EVICT_BLOCKED cleared (R65). -/
def enterEvict (r : EvictRecord) (s : State) : State :=
  let s := closeMode s
  setMode .evict (setEvictBlocked false { s with fc := { s.fc with evict := some r } })

/-! ## The return's start -/

/-- A point's goal for a leg (R136). -/
def legGoal (g : GeometryCfg) (p : Vec3) : Leg → Vec3
  | .rise => ⟨p.x, p.y, max p.z (1000 * g.transitZ)⟩
  | .traverse => ⟨1000 * g.dock.x, 1000 * g.dock.y, p.z⟩
  | .descend => pointUm g.dock
  | .settle => p

/-- A leg begins: its goal, and the path check from P to it. Nothing where the check fails (R136). -/
def beginLeg (leg : Leg) (s : State) : Option State :=
  match s.fc.p with
  | none => none
  | some p =>
    let goal := legGoal s.cs.record.geometry p leg
    if (checkPath s goal).isSome then none else some (setMode (.ret leg) { s with fc := { s.fc with legGoal := some goal } })

/-- A return is started, or retried, in HOLD: a first leg that passes clears RETURN_BLOCKED, one that fails raises it (R136, R138). -/
def startReturnInHold (s : State) : State :=
  match beginLeg .rise s with
  | some s' => setReturnBlocked false s'
  | none => setReturnBlocked true { s with fc := { s.fc with legGoal := none } }

/-! ## Entry to HOLD -/

/-- What made an entry to HOLD (R127). -/
inductive HoldCause where
  | normal
  | evictBlocked
  | returnBlocked
deriving DecidableEq, Repr

/-- The eviction start test in HOLD: EVICT where there is a valid exit, EVICT_BLOCKED where there is none (R61, R65, R68). -/
def evictionTestInHold (s : State) : State :=
  match chooseExit s with
  | none => s
  | some none => setEvictBlocked true { s with fc := { s.fc with evict := none } }
  | some (some r) => enterEvict r s

/-- R127 says which entries start a return. -/
def holdStartsReturn (cause : HoldCause) (s : State) : Bool :=
  match cause with
  | .normal => true
  | .returnBlocked => false
  | .evictBlocked => !s.fc.returnBlocked

/-- FC's own tests at an entry to HOLD after the eviction test: hot, return, queue (R127). -/
def holdTests (cause : HoldCause) (s : State) : State :=
  let s := if s.fc.hot then setLatch s else s
  let s := if s.fc.latch && holdStartsReturn cause s then startReturnInHold s else s
  if s.fc.mode = .hold then startTest s else s

/-- Flight enters HOLD (R127). -/
def enterHold (cause : HoldCause) (s : State) : State :=
  let s := setMode .hold
    { s with fc := { s.fc with deadman := none, jogDemand := .zero, run := none, legGoal := none, evict := none } }
  let s := if cause = .evictBlocked then s else evictionTestInHold s
  if s.fc.mode = .hold then holdTests cause s else s

/-! ## Evictions and returns outside HOLD -/

/-- An eviction is blocked in another mode than HOLD (R68). -/
def blockEviction (s : State) : State :=
  enterHold .evictBlocked (closeMode (setEvictBlocked true { s with fc := { s.fc with evict := none } }))

/-- The modes in which the eviction start test can pass (R61). -/
def Mode.evictable (m : Mode) : Bool := m.isLeg || decide (m = .hold) || decide (m = .jog) || decide (m = .cue)

/-- The eviction start test, or a try (R61, R68, R69; log 20). -/
def evictionTest (s : State) : State :=
  if s.fc.mode.evictable then
    match chooseExit s with
    | none => s
    | some (some r) => enterEvict r s
    | some none =>
      if s.fc.evictBlocked then s else if s.fc.mode = .hold then evictionTestInHold s else blockEviction s
  else s

/-- FC chooses again in EVICT: a valid exit replaces the record, none blocks the eviction (R66, R71). -/
def chooseAgain (s : State) : State :=
  match chooseExit s with
  | some (some r) => { s with fc := { s.fc with evict := some r } }
  | _ => blockEviction s

/-- A return is blocked (R138). -/
def blockReturn (s : State) : State :=
  let s := setReturnBlocked true { s with fc := { s.fc with legGoal := none } }
  if s.fc.mode = .hold then s else enterHold .returnBlocked (closeMode s)

/-- A return is started from HOLD, JOG or CUE (R135, R136). A first leg that passes clears RETURN_BLOCKED from whichever of the three it
starts (R138; log 42). -/
def startReturn (s : State) : State :=
  let s := closeMode s
  if s.fc.mode = .hold then startReturnInHold s
  else
    match beginLeg .rise s with
    | some s' => setReturnBlocked false s'
    | none =>
      enterHold .returnBlocked (setReturnBlocked true { s with fc := { s.fc with legGoal := none } })

/-- RETURN, or the hot demand, in the current mode (R135, R140). -/
def returnDemand (s : State) : State :=
  match s.fc.mode with
  | .parked | .ret _ => s
  | .launching | .stopped | .evict => setLatch s
  | .hold | .jog | .cue => startReturn (setLatch s)

/-! ## Launch, settle, park and stop -/

/-- All four drive statuses that FC holds are the one named (R126, R139, R151). -/
def allDrives (status : DriveStatus) (s : State) : Bool := (handles 4).all (fun w => decide (s.fc.driveStatus[w] = some status))

/-- The launch ends when all four drives are TRACKING (R126). -/
def testLaunch (s : State) : State :=
  if s.fc.mode = .launching ∧ allDrives .tracking s = true then
    enterHold .normal { s with fc := { s.fc with launchTimer := none } }
  else s

/-- Flight enters LAUNCHING (R126). -/
def enterLaunching (s : State) : State :=
  testLaunch (setMode .launching { s with fc := { s.fc with v := .zero, launchTimer := some (afterMs s 500) } })

/-- Flight enters PARKED; SU is handed the conditions' clears and then the airborne indication (R139, R202; log 39). -/
def enterParked (s : State) : State :=
  setMode .parked (setPinned false (clearLatch { s with fc := { s.fc with settleTimer := none, v := .zero } }))

/-- Settling ends when all four drives are BRAKED (R139). -/
def testSettle (s : State) : State :=
  if s.fc.mode = .ret .settle ∧ allDrives .braked s = true then enterParked s else s

/-- Flight enters SETTLE (R139). -/
def enterSettle (s : State) : State :=
  testSettle (setMode (.ret .settle) { s with fc := { s.fc with v := .zero, legGoal := none, settleTimer := some (afterMs s 500) } })

/-- A timer is stopped at the entry to STOPPED; an expiry that has come by then is still taken (R145, R153; log 37). -/
def stopTimer (now : PartTime) (timer : Option PartTime) : Option PartTime := timer.filter (fun due => reached now due)

/-- The mode left is closed at the entry to STOPPED (R145). -/
def closeForStop (s : State) : State :=
  let s := closeMode s
  { s with
    fc := { s.fc with
      launchTimer := stopTimer s.part.partTime s.fc.launchTimer, settleTimer := stopTimer s.part.partTime s.fc.settleTimer,
      evict := none } }

/-- Flight enters STOPPED; SU is handed the conditions' clears and then, from PARKED, the airborne indication (R145, R97, R202; log 39). -/
def enterStopped (s : State) : State :=
  let s := closeForStop { s with fc := { s.fc with v := .zero } }
  let s := setReturnBlocked false (setEvictBlocked false (setPinned false s))
  setMode .stopped { s with ct := { s.ct with halted := true } }

/-! ## The stop-cause set -/

/-- A cause that is entered live: a line or monitor cause (R143). -/
def Cause.enteredLive : Cause → Bool
  | .estop | .linkLost _ | .driveFault _ | .follow _ | .slack _ | .overload _ => true
  | .stop | .demoteOverflow | .launchFail | .parkFail | .restart => false

/-- The set holds an entry for a cause and winch (R143). -/
def holdsCause (causes : List CauseEntry) (c : Cause) : Bool := causes.any (fun e => decide (e.cause = c))

/-- A raise of a cause (R144). An entry to STOPPED hands MODE CHANGED, then QUEUE CHANGED (R145; log 39). -/
def raiseCause (c : Cause) (s : State) : State :=
  if holdsCause s.fc.causes c then
    { s with
      fc := { s.fc with
        causes := s.fc.causes.map (fun e => if e.cause = c ∧ c.enteredLive = true then { e with live := true } else e) } }
  else
    let s := { s with fc := { s.fc with causes := s.fc.causes ++ [{ cause := c, live := c.enteredLive }] } }
    if s.fc.mode = .stopped then s else reportQueue s.ct (enterStopped s)

/-- A clear of a cause: its live entry becomes released (R144). -/
def clearCause (c : Cause) (s : State) : State :=
  { s with
    fc := { s.fc with
      causes := s.fc.causes.map (fun e => if e.cause = c ∧ c.enteredLive = true then { e with live := false } else e) } }

end Sys2Proof.Machine
end

