-- ==== Sys2Proof/Machine/Zones.lean ====
section
/-! DEFINITION. The operations of the Zone Table that its requests and events share: changing a slot, the entry decision, the place
test, the arming pass, demotion, placement, relations, the subject, and what the table hands on (chapters 2 and 3). -/

namespace Sys2Proof.Machine

/-- The most entries of the pending queue (R56). -/
def pendingMax : Nat := 8

/-- A zone in force (R17). -/
def Zone.inForce (z : Zone) : Bool := !decide (z.state = .suspended)

/-- The zone in a slot. -/
def Zt.zone (t : Zt) (h : ZoneHandle) : Option Zone := t.slots[h].zone

/-- The state of a slot; absent is FREE (R16). -/
def Zt.stateOf (t : Zt) (h : ZoneHandle) : Option ZoneState := (t.zone h).map Zone.state

/-- A slot with its zone replaced and its generation kept (R18). -/
def Zt.setZone (t : Zt) (h : ZoneHandle) (z : Option Zone) : Zt :=
  { t with slots := put t.slots h { t.slots[h] with zone := z } }

/-- The clearance of a box to the last reported envelope, absent while the position is invalid (R16, R48). -/
def Zt.clearanceTo (g : GeometryCfg) (t : Zt) (box : Box) : Option Int := t.report.p.map (fun p => clearance g p t.report.a box)

/-- A clearance is present and at least STANDOFF (R27, R51). -/
def clearOf (standoff : Int) : Option Int → Bool
  | some c => decide (standoff ≤ c)
  | none => false

/-- A clearance is present and below a bound (R28, R52). -/
def below (bound : Int) : Option Int → Bool
  | some c => decide (c < bound)
  | none => false

/-- The relation of a zone that enters force (R54). -/
def entryRelation (clearance : Option Int) (guard : Int) : Relation := if below guard clearance then .near else .clear

/-- The relation of a zone in force at an update; CLEAR while the position is invalid (R54). -/
def Zone.updateRelation (z : Zone) : Zone :=
  match z.clearance with
  | none => { z with relation := .clear }
  | some c =>
    if c < z.guard then { z with relation := .near }
    else if z.guard + z.hyst ≤ c then { z with relation := .clear }
    else z

/-- The table at work: with the change entries made so far, and whether a demotion or a placement found the queue full (R49, R57). -/
structure ZtWork where
  zt : Zt
  entries : List ChangeEntry
  overflowed : Bool
deriving DecidableEq, Repr

/-- A slot changes: its zone is replaced, the pending queue follows its state, and the change makes an entry (R17, R42, R56). -/
def ZtWork.change (w : ZtWork) (h : ZoneHandle) (cls : ZoneClass) (kind : ChangeKind) (after : Option Zone) : ZtWork :=
  let wasPending := decide (w.zt.stateOf h = some .pending)
  let isPending := decide (after.map Zone.state = some .pending)
  let queue := if isPending then (if wasPending then w.zt.queue else w.zt.queue ++ [h]) else w.zt.queue.filter (· ≠ h)
  { w with
    zt := { w.zt.setZone h after with queue := queue },
    entries := w.entries ++
      [{ handle := h, generation := w.zt.slots[h].generation, cls := cls, kind := kind, before := w.zt.stateOf h,
         after := after.map Zone.state }] }

/-- A zone that enters force by the entry decision: ARMED where its clearance is at least STANDOFF, else PENDING (R27). -/
def Zt.entering (g : GeometryCfg) (t : Zt) (z : Zone) : Zone :=
  let c := t.clearanceTo g z.box
  { z with
    state := if clearOf g.standoff c then .armed else .pending,
    awaiting := false, clearance := c, relation := entryRelation c z.guard }

/-- A zone that has left force (R17). -/
def Zone.leaving (z : Zone) : Zone := { z with state := .suspended, relation := .off, clearance := none }

/-- The entry kind of a zone that has entered force (R42). -/
def entryKind (z : Zone) : ChangeKind := if z.state = .armed then .arm else .pend

/-- The number of close zones (R28). -/
def Zt.close (g : GeometryCfg) (t : Zt) : Nat :=
  ((handles 48).filter (fun h =>
    match t.zone h with
    | some z => decide (z.state = .armed) && below (g.standoff + 500) z.clearance
    | none => false)).length

/-- The place test for a need; a need of zero does not take it (R28). -/
def Zt.placesFor (g : GeometryCfg) (t : Zt) (need : Nat) : Bool :=
  decide (need = 0 ∨ t.queue.length + t.close g + need ≤ pendingMax)

/-- One zone of the arming pass (R51). -/
def ZtWork.armOne (g : GeometryCfg) (w : ZtWork) (h : ZoneHandle) : ZtWork :=
  match w.zt.zone h with
  | some z =>
    if z.state = .pending ∧ clearOf g.standoff z.clearance = true then w.change h z.cls .arm (some { z with state := .armed }) else w
  | none => w

/-- The arming pass, in queue order (R51). -/
def ZtWork.armingPass (g : GeometryCfg) (w : ZtWork) : ZtWork := w.zt.queue.foldl (fun w h => w.armOne g h) w

/-- One zone of a demotion (R52, R57). -/
def ZtWork.demoteOne (g : GeometryCfg) (w : ZtWork) (h : ZoneHandle) : ZtWork :=
  match w.zt.zone h with
  | some z =>
    if z.state = .armed ∧ below g.standoff z.clearance = true then
      if w.zt.queue.length < pendingMax then w.change h z.cls .demote (some { z with state := .pending })
      else { w.change h z.cls .demote (some z.leaving) with overflowed := true }
    else w
  | none => w

/-- Demotion, in handle order (R52). -/
def ZtWork.demotion (g : GeometryCfg) (w : ZtWork) : ZtWork := (handles 48).foldl (fun w h => w.demoteOne g h) w

/-- One zone of the placement (R59). -/
def ZtWork.placeOne (g : GeometryCfg) (w : ZtWork) (h : ZoneHandle) : ZtWork :=
  match w.zt.zone h with
  | some z =>
    if z.awaiting then
      let entered := w.zt.entering g z
      if entered.state = .armed ∨ w.zt.queue.length < pendingMax then w.change h z.cls (entryKind entered) (some entered)
      else { w with zt := w.zt.setZone h (some { z with awaiting := false }), overflowed := true }
    else w
  | none => w

/-- Placement of the stored FIXED zones that await position, in slot order (R59). -/
def ZtWork.placement (g : GeometryCfg) (w : ZtWork) : ZtWork := (handles 48).foldl (fun w h => w.placeOne g h) w

/-- Every zone in force is changed by a function that keeps its state. -/
def Zt.mapForce (f : Zone → Zone) (t : Zt) : Zt :=
  { t with slots := t.slots.map (fun q => { q with zone := q.zone.map (fun z => if z.inForce then f z else z) }) }

/-- The clearance of every zone in force is computed afresh (R50). -/
def Zt.computeClearances (g : GeometryCfg) (t : Zt) : Zt := t.mapForce (fun z => { z with clearance := t.clearanceTo g z.box })

/-- The relation of every zone in force is updated (R54). -/
def Zt.updateRelations (t : Zt) : Zt := t.mapForce Zone.updateRelation

/-- The eviction subject as the table stands (R60). -/
def Zt.findSubject (g : GeometryCfg) (t : Zt) : Option ZoneHandle :=
  match t.queue with
  | [] => none
  | h :: _ =>
    match t.zone h with
    | some z => if t.report.p.isSome && below g.standoff z.clearance then some h else none
    | none => none

/-- The subject is determined (R60). -/
def Zt.setSubject (g : GeometryCfg) (t : Zt) : Zt := { t with subject := t.findSubject g }

/-- The subject with its generation (R55). -/
def Zt.subjectName (t : Zt) : Option ZoneName := t.subject.map (fun h => ⟨h, t.slots[h].generation⟩)

/-- The zones in force as a report carries them, in handle order (R42). -/
def Zt.forceZones (t : Zt) : List ForceZone :=
  (handles 48).filterMap (fun h =>
    match t.zone h with
    | some z =>
      if z.inForce then
        some { handle := h, generation := t.slots[h].generation, state := z.state, box := z.box, guard := z.guard, hyst := z.hyst,
               cap := z.cap, clearance := z.clearance }
      else none
    | none => none)

/-- The near cap (R55). -/
def Zt.nearCap (t : Zt) : Option Int :=
  (handles 48).foldl (fun best h =>
    match t.zone h with
    | some z =>
      if z.inForce ∧ z.relation = .near then some (match best with | some b => min b z.cap | none => z.cap) else best
    | none => best) none

/-- A relieving kind (R42). -/
def ChangeKind.relieving : ChangeKind → Bool
  | .shift | .suspend | .drop | .expire => true
  | .arm | .pend | .demote | .renew => false

/-- The change report of some entries as the table stands (R42, R55). -/
def Zt.changeReport (t : Zt) (entries : List ChangeEntry) : ChangeReport :=
  { changes := entries, inForce := t.forceZones, subject := t.subjectName, relieving := entries.any (fun e => e.kind.relieving),
    nearCap := t.nearCap }

/-- The notice of a change entry (R43). -/
def ChangeEntry.notice (e : ChangeEntry) : Notice := .zoneChanged ⟨e.handle, e.generation⟩ e.cls e.kind e.after none

/-- DEMOTE_OVERFLOW: the condition, and the stop cause before the change report (R57, R58). -/
def overflowMessages (s : State) : State :=
  let raised := if s.zt.overflow then s else tellSu .zt (.raise condDemoteOverflow) { s with zt := { s.zt with overflow := true } }
  tellFc .zt (.raise .demoteOverflow) raised

/-- A change report goes to CT and FC, and then the notices (R41). -/
def handReport (entries : List ChangeEntry) (s : State) : State :=
  let r := s.zt.changeReport entries
  notifyAll (entries.map ChangeEntry.notice)
    (tellFc .zt (.change r) { s with chan := { s.chan with ztToCt := s.chan.ztToCt ++ [r] } })

/-- A zone summary goes to FC (R55). -/
def handSummary (s : State) : State := tellFc .zt (.summary s.zt.nearCap s.zt.subjectName) s

/-- What the table hands on after its work: the overflow, then the change report and the notices of its entries, if it made any
(R41, R49). -/
def handOn (w : ZtWork) (s : State) : State :=
  let s := { s with zt := w.zt }
  let s := if w.overflowed then overflowMessages s else s
  if w.entries.isEmpty then s else handReport w.entries s

/-- A table about to work. -/
def Zt.work (t : Zt) : ZtWork := { zt := t, entries := [], overflowed := false }

/-- After a request, an advance or a configuration change: the arming pass, then the subject (R41, R60, R80). -/
def ZtWork.settle (g : GeometryCfg) (w : ZtWork) : ZtWork :=
  let w := w.armingPass g
  { w with zt := w.zt.setSubject g }

/-- A request's change, the arming pass and the subject, handed on (R41). -/
def carryOut (w : ZtWork) (s : State) : State := handOn (w.settle s.cs.record.geometry) s

/-- Steps 1 to 7 of a valid report on the table as it holds the report (R49). -/
def evaluateReport (s : State) : State :=
  let g := s.cs.record.geometry
  let w := (((s.zt.computeClearances g).work.armingPass g).demotion g).placement g
  let w := { w with zt := (w.zt.updateRelations).setSubject g }
  if w.entries.isEmpty then handSummary (handOn w s) else handOn w s

/-- ZT's work on a report that marks the position invalid (R48). -/
def invalidReport (s : State) : State :=
  handSummary { s with zt := { s.zt.mapForce (fun z => { z with clearance := none, relation := .clear }) with subject := none } }

/-- ZT takes a position report (R48, R49). -/
def takePositionReport (r : PositionReport) (s : State) : State :=
  let s := { s with zt := { s.zt with report := r } }
  if r.p.isSome then evaluateReport s else invalidReport s

/-- FC tells ZT that a RESUME has been carried out: DEMOTE_OVERFLOW's live flag clears (R58). -/
def clearOverflow (s : State) : State :=
  if s.zt.overflow then tellSu .zt (.clear condDemoteOverflow) { s with zt := { s.zt with overflow := false } } else s

end Sys2Proof.Machine
end

