-- ==== Sys2Proof/Machine/ZoneTable.lean ====
section
/-! DEFINITION. The requests of the Zone Table with the permission matrix and the checks on zone fields (chapter 2), and ZT's taking of
a position report (R48). -/

namespace Sys2Proof.Machine

/-! ## Permission and fields -/

/-- The three columns of zone operations (R22). -/
inductive ZoneOp where
  | put
  | suspend
  | drop
deriving DecidableEq, Repr

/-- The matrix row of an operation on a zone of a class (R22). -/
def zoneRow (m : MatrixCfg) : ZoneClass → ZoneOp → RoleCells
  | .fixed, _ => m.fixedAll
  | .play, .put => m.playPut
  | .play, .suspend => m.playSuspend
  | .play, .drop => m.playDrop
  | .temporary, _ => m.tempAll

/-- A cell grants an operation: OWNED where the zone is the role's own (R22). -/
def cellGrants (c : Cell) (own : Bool) : Bool :=
  match c with
  | .no => false
  | .owned => own
  | .any => true

/-- A row grants a role; SAFETY always (R22, R196). -/
def rowGrants (r : RoleCells) (role : Port) (own : Bool) : Bool :=
  match role with
  | .pilot => cellGrants r.pilot own
  | .director => cellGrants r.director own
  | .safety => true

/-- The matrix grants a role an operation on a zone (R22, R23). -/
def zoneGranted (s : State) (role : Port) (op : ZoneOp) (z : Zone) : Bool :=
  rowGrants (zoneRow s.cs.record.matrix z.cls op) role (decide (z.owner = role))

/-- The checks of R24 on a box. -/
def boxFits (g : GeometryCfg) (b : Box) : Bool :=
  decide (500 ≤ b.xhi - b.xlo) && decide (500 ≤ b.yhi - b.ylo) && decide (500 ≤ b.zhi - b.zlo) && boxWithinVolume g b

/-- Guard, hysteresis and cap each in its range (R25). -/
def guardInRange (g : GeometryCfg) (guard : Int) : Bool := within g.standoff 10000 guard
def hystInRange (hyst : Int) : Bool := within 0 1500 hyst
def capInRange (cap : Int) : Bool := within 200 6000 cap

/-- The guard-cap condition of R25. -/
def guardCapHolds (g : GeometryCfg) (m : MotionCfg) (guard cap : Int) : Bool :=
  decide (cap ^ 2 ≤ (guard - g.standoff) * 2 * m.decel)

/-- The guard and cap pass the checks of R25 (R25, R209, R212). -/
def guardAndCapFit (g : GeometryCfg) (m : MotionCfg) (guard cap : Int) : Bool :=
  guardInRange g guard && capInRange cap && guardCapHolds g m guard cap

/-- A life in its class's range (R26). -/
def lifeInRange : ZoneClass → Int → Bool
  | .fixed, _ => false
  | .play, life => within 10 36000 life
  | .temporary, life => within 10 6000 life

/-- The life of a put is allowed: absent for FIXED, optional for PLAY, required for TEMPORARY (R26). -/
def putLifeFits : ZoneClass → Option Int → Bool
  | .temporary, none => false
  | _, none => true
  | c, some life => lifeInRange c life

/-- The expiry that a life gives: the zone-clock value plus the life, with the clock's wrap (R26, R76). -/
def expiryOf (t : Zt) (life : Int) : ClockValue := t.clock + BitVec.ofInt 32 life

/-- The class that a byte names (R16, R192). -/
def classOf (b : Byte) : Option ZoneClass :=
  match b.toNat with
  | 0 => some .fixed
  | 1 => some .play
  | 2 => some .temporary
  | _ => none

/-! ## Naming -/

/-- The naming tests, then a check or an effect on the zone named (R19). -/
def onZone (handle gen : Byte) (s : State) (act : ZoneHandle → Zone → Answer) : Answer :=
  if h : handle.toNat < 48 then
    match s.zt.zone ⟨handle.toNat, h⟩ with
    | none => refuse .noZone s
    | some z => if s.zt.slots[handle.toNat].generation = gen then act ⟨handle.toNat, h⟩ z else refuse .stale s
  else refuse .badField s

/-- The naming tests and the role check (R19, R22). -/
def onZoneGranted (role : Port) (op : ZoneOp) (handle gen : Byte) (s : State) (act : ZoneHandle → Zone → Answer) : Answer :=
  onZone handle gen s (fun h z => if zoneGranted s role op z then act h z else refuse .denied s)

/-- The state byte of a slot. -/
def Zt.stateByte (t : Zt) (h : ZoneHandle) : List Byte := u8 (slotStateCode (t.stateOf h))

/-- OK with the zone's state after the request (R32, R34, R35). -/
def okWithState (h : ZoneHandle) (s : State) : Answer := ⟨.ok, s.zt.stateByte h, s⟩

/-! ## ZONE PUT -/

/-- The lowest-numbered FREE slot (R21). -/
def Zt.freeSlot (t : Zt) : Option ZoneHandle := (handles 48).find? (fun h => (t.zone h).isNone)

/-- How many zones of class FIXED are not FREE (R20). -/
def Zt.fixedCount (t : Zt) : Nat :=
  ((handles 48).filter (fun h => match t.zone h with | some z => decide (z.cls = .fixed) | none => false)).length

/-- The slot allocated to a new zone (R18, R21). -/
def Zt.allocate (t : Zt) (h : ZoneHandle) : Zt :=
  { t with slots := put t.slots h { t.slots[h] with generation := t.slots[h].generation + 1 } }

/-- What a ZONE PUT carries, with its class read. -/
structure PutFields where
  cls : ZoneClass
  box : Box
  guard : Int
  hyst : Int
  cap : Int
  group : Option Byte
  life : Option Int

/-- The fields of a put pass R24 to R26. -/
def PutFields.fit (f : PutFields) (s : State) : Bool :=
  boxFits s.cs.record.geometry f.box && guardAndCapFit s.cs.record.geometry s.cs.record.motion f.guard f.cap &&
  hystInRange f.hyst && decide ((f.group.getD 0).toNat ≤ 7) && putLifeFits f.cls f.life

/-- The new zone, in the state of the entry decision (R21, R27). -/
def PutFields.zone (f : PutFields) (role : Port) (s : State) : Zone :=
  s.zt.entering s.cs.record.geometry
    { state := .pending, cls := f.cls, owner := role, box := f.box, guard := f.guard, hyst := f.hyst, cap := f.cap,
      group := (f.group.getD 0).toNat, expiry := f.life.map (expiryOf s.zt), awaiting := false, relation := .clear,
      clearance := none }

/-- A put that passes its checks (R30). -/
def carryOutPut (h : ZoneHandle) (z : Zone) (s : State) : Answer :=
  let t := s.zt.allocate h
  let s := carryOut (t.work.change h z.cls (entryKind z) (some z)) s
  ⟨.ok, u8 h ++ [s.zt.slots[h].generation] ++ s.zt.stateByte h ++ optional word32 z.expiry, s⟩

/-- ZONE PUT after its class is read: role, fields, class count, table, places (R29). -/
def zonePut (role : Port) (f : PutFields) (s : State) : Answer :=
  if !rowGrants (zoneRow s.cs.record.matrix f.cls .put) role true then refuse .denied s
  else if !f.fit s then refuse .badField s
  else if f.cls = .fixed ∧ 16 ≤ s.zt.fixedCount then refuse .classFull s
  else
    match s.zt.freeSlot with
    | none => refuse .tableFull s
    | some h =>
      let z := f.zone role s
      if z.state = .pending ∧ s.zt.placesFor s.cs.record.geometry 1 = false then refuse .pendingFull s
      else carryOutPut h z s

/-- ZONE PUT at ZT (R29, R30). -/
def execZonePut (p : Port) (s : State) : Outcome :=
  request p (fun r s =>
    match r with
    | .zonePut cls box guard hyst cap group life =>
      (match classOf cls with
       | none => some (refuse .badField s)
       | some c => some (zonePut p ⟨c, box, guard, hyst, cap, group, life⟩ s))
    | _ => none) s

/-! ## ZONE SHIFT -/

/-- What a ZONE SHIFT carries. -/
structure ShiftFields where
  box : Box
  guard : Option Int
  hyst : Option Int
  cap : Option Int

/-- The zone with the shift's fields (R32). -/
def ShiftFields.apply (f : ShiftFields) (z : Zone) : Zone :=
  { z with box := f.box, guard := f.guard.getD z.guard, hyst := f.hyst.getD z.hyst, cap := f.cap.getD z.cap }

/-- The fields of a shift pass: what it carries in range, and the guard-cap condition on the values after it (R31). -/
def ShiftFields.fit (f : ShiftFields) (z : Zone) (s : State) : Bool :=
  let g := s.cs.record.geometry
  boxFits g f.box && f.guard.all (guardInRange g) && f.hyst.all hystInRange && f.cap.all capInRange &&
  guardCapHolds g s.cs.record.motion (f.apply z).guard (f.apply z).cap

/-- The zone after a shift, before the arming pass (R32). -/
def ShiftFields.shifted (f : ShiftFields) (z : Zone) (s : State) : Zone :=
  let g := s.cs.record.geometry
  let z := f.apply z
  if z.inForce then
    let c := s.zt.clearanceTo g f.box
    Zone.updateRelation
      { z with clearance := c, state := if z.state = .armed ∧ below g.standoff c = true then .pending else z.state }
  else z

/-- ZONE SHIFT after its naming tests and its role check: lock, fields, places (R31, R32). -/
def zoneShift (f : ShiftFields) (h : ZoneHandle) (z : Zone) (s : State) : Answer :=
  if z.cls = .fixed ∧ z.inForce = true then refuse .locked s
  else if !f.fit z s then refuse .badField s
  else
    let z' := f.shifted z s
    if z.state = .armed ∧ z'.state = .pending ∧ s.zt.placesFor s.cs.record.geometry 1 = false then refuse .pendingFull s
    else okWithState h (carryOut (s.zt.work.change h z.cls .shift (some z')) s)

/-- ZONE SHIFT at ZT (R31, R32). -/
def execZoneShift (p : Port) (s : State) : Outcome :=
  request p (fun r s =>
    match r with
    | .zoneShift handle gen box guard hyst cap =>
      some (onZoneGranted p .put handle gen s (fun h z => zoneShift ⟨box, guard, hyst, cap⟩ h z s))
    | _ => none) s

/-! ## ZONE RENEW -/

/-- ZONE RENEW after its naming tests and its role check (R33). -/
def zoneRenew (life : Int) (h : ZoneHandle) (z : Zone) (s : State) : Answer :=
  if !lifeInRange z.cls life then refuse .badField s
  else
    let expiry := expiryOf s.zt life
    ⟨.ok, word32 expiry,
      notify (.zoneChanged ⟨h, s.zt.slots[h].generation⟩ z.cls .renew (some z.state) (some expiry))
        { s with zt := s.zt.setZone h (some { z with expiry := some expiry }) }⟩

/-- ZONE RENEW at ZT (R33). -/
def execZoneRenew (p : Port) (s : State) : Outcome :=
  request p (fun r s =>
    match r with
    | .zoneRenew handle gen life => some (onZoneGranted p .put handle gen s (fun h z => zoneRenew life h z s))
    | _ => none) s

/-! ## ZONE SUSPEND, ZONE RESUME, ZONE DROP -/

/-- ZONE SUSPEND after its naming tests and its role check (R34). -/
def zoneSuspend (h : ZoneHandle) (z : Zone) (s : State) : Answer :=
  if z.inForce then okWithState h (carryOut (s.zt.work.change h z.cls .suspend (some z.leaving)) s) else okWithState h s

/-- ZONE SUSPEND at ZT (R34). -/
def execZoneSuspend (p : Port) (s : State) : Outcome :=
  request p (fun r s =>
    match r with
    | .zoneSuspend handle gen => some (onZoneGranted p .suspend handle gen s (fun h z => zoneSuspend h z s))
    | _ => none) s

/-- ZONE RESUME after its naming tests and its role check (R35). -/
def zoneResume (h : ZoneHandle) (z : Zone) (s : State) : Answer :=
  if z.inForce then okWithState h s
  else
    let z' := s.zt.entering s.cs.record.geometry z
    if z'.state = .pending ∧ s.zt.placesFor s.cs.record.geometry 1 = false then refuse .pendingFull s
    else okWithState h (carryOut (s.zt.work.change h z.cls (entryKind z') (some z')) s)

/-- ZONE RESUME at ZT (R35). -/
def execZoneResume (p : Port) (s : State) : Outcome :=
  request p (fun r s =>
    match r with
    | .zoneResume handle gen => some (onZoneGranted p .suspend handle gen s (fun h z => zoneResume h z s))
    | _ => none) s

/-- ZONE DROP at ZT (R38). -/
def execZoneDrop (p : Port) (s : State) : Outcome :=
  request p (fun r s =>
    match r with
    | .zoneDrop handle gen =>
      some (onZoneGranted p .drop handle gen s (fun h z => ⟨.ok, [], carryOut (s.zt.work.change h z.cls .drop none) s⟩))
    | _ => none) s

/-! ## ZONE READ and ZONE LIST -/

/-- The place of a zone in the pending queue, counted 1 at the head (R39). -/
def Zt.place (t : Zt) (h : ZoneHandle) : Option Nat := (t.queue.findIdx? (· = h)).map (· + 1)

/-- What ZONE READ carries of a zone: the record of R16, its place in the queue, whether it is the subject (R39). -/
def zoneRecordBytes (t : Zt) (h : ZoneHandle) (z : Zone) : List Byte :=
  t.stateByte h ++ [t.slots[h].generation] ++ u8 z.cls.code ++ u8 z.owner.code ++ boxBytes z.box ++ i32 z.guard ++ i32 z.hyst ++
  i32 z.cap ++ u8 z.group ++ optional word32 z.expiry ++ flag z.awaiting ++ u8 z.relation.code ++ optional i32 z.clearance ++
  optional u8 (t.place h) ++ flag (decide (t.subject = some h))

/-- ZONE READ at ZT (R39). -/
def execZoneRead (p : Port) (s : State) : Outcome :=
  request p (fun r s =>
    match r with
    | .zoneRead handle gen => some (onZone handle gen s (fun h z => ⟨.ok, zoneRecordBytes s.zt h z, s⟩))
    | _ => none) s

/-- A state and a class pass their filters; an empty filter stands for all (R40). Bits stand at R16's positions (R192). -/
def passesFilters (states classes : Byte) (z : Zone) : Bool :=
  (decide (states = 0) || states.toNat.testBit (slotStateCode (some z.state))) &&
  (decide (classes = 0) || classes.toNat.testBit z.cls.code)

/-- One entry of ZONE LIST for each slot that passes (R40). -/
def Zt.listEntries (t : Zt) (states classes : Byte) : List (List Byte) :=
  (handles 48).filterMap (fun h =>
    match t.zone h with
    | some z =>
      if passesFilters states classes z then
        some (u8 h ++ [t.slots[h].generation] ++ t.stateByte h ++ u8 z.cls.code)
      else none
    | none => none)

/-- ZONE LIST (R40). A bit outside the names of its kind, FREE's among them, is outside the filter. -/
def zoneList (states classes : Byte) (s : State) : Answer :=
  if states &&& 0xF1#8 ≠ 0 ∨ classes &&& 0xF8#8 ≠ 0 then refuse .badField s
  else ⟨.ok, counted id (s.zt.listEntries states classes), s⟩

/-- ZONE LIST at ZT (R40). -/
def execZoneList (p : Port) (s : State) : Outcome :=
  request p (fun r s =>
    match r with
    | .zoneList states classes => some (zoneList states classes s)
    | _ => none) s

/-! ## GROUP SUSPEND and GROUP RESUME -/

/-- A group number that the group requests take (R36, R37). -/
def groupInRange (group : Byte) : Bool := decide (1 ≤ group.toNat) && decide (group.toNat ≤ 7)

/-- The zones of a group, in force or not as asked, that the role may suspend and resume, in handle order (R36, R37). -/
def groupZones (role : Port) (group : Byte) (inForce : Bool) (s : State) : List (ZoneHandle × Zone) :=
  (handles 48).filterMap (fun h =>
    match s.zt.zone h with
    | some z => if z.group = group.toNat ∧ z.inForce = inForce ∧ zoneGranted s role .suspend z = true then some (h, z) else none
    | none => none)

/-- OK with a count; nothing more where it is 0 (R36, R37, R41). -/
def okWithCount (count : Nat) (w : ZtWork) (s : State) : Answer :=
  ⟨.ok, u8 count, if count = 0 then s else carryOut w s⟩

/-- GROUP SUSPEND (R36). -/
def groupSuspend (role : Port) (group : Byte) (s : State) : Answer :=
  if !groupInRange group then refuse .badField s
  else
    let zs := groupZones role group true s
    okWithCount zs.length (zs.foldl (fun w hz => w.change hz.1 hz.2.cls .suspend (some hz.2.leaving)) s.zt.work) s

/-- GROUP SUSPEND at ZT (R36). -/
def execGroupSuspend (p : Port) (s : State) : Outcome :=
  request p (fun r s =>
    match r with
    | .groupSuspend group => some (groupSuspend p group s)
    | _ => none) s

/-- GROUP RESUME: the entry decision of each, the place test for the group as a whole (R37). -/
def groupResume (role : Port) (group : Byte) (s : State) : Answer :=
  if !groupInRange group then refuse .badField s
  else
    let g := s.cs.record.geometry
    let zs := (groupZones role group false s).map (fun hz => (hz.1, s.zt.entering g hz.2))
    let need := (zs.filter (fun hz => decide (hz.2.state = .pending))).length
    if s.zt.placesFor g need = false then refuse .pendingFull s
    else okWithCount zs.length (zs.foldl (fun w hz => w.change hz.1 hz.2.cls (entryKind hz.2) (some hz.2)) s.zt.work) s

/-- GROUP RESUME at ZT (R37). -/
def execGroupResume (p : Port) (s : State) : Outcome :=
  request p (fun r s =>
    match r with
    | .groupResume group => some (groupResume p group s)
    | _ => none) s

/-! ## The position report -/

/-- ZT takes FC's oldest position report (R48, R49). -/
def execPositionReport (s : State) : Outcome :=
  match s.chan.fcToZt with
  | [] => .next s
  | r :: rest => whileRunning (fun s => takePositionReport r { s with chan := { s.chan with fcToZt := rest } }) s

end Sys2Proof.Machine
end

