-- ==== Sys2Proof/Machine/CueTable.lean ====
section
/-! DEFINITION. The Cue Table: marking cues, cue requests, queue requests, the dwell timer, and CT's taking of change reports and
allowance reports (chapter 5). -/

namespace Sys2Proof.Machine

/-! ## Marking cues -/

/-- How many zones of CT's copy come below STANDOFF of the envelope at a target (R90). -/
def blockersAt (g : GeometryCfg) (t : Ct) (target : Vec3) : Nat :=
  (t.zones.filter (fun z => decide (clearance g (pointUm target) t.allowance z.box < g.standoff))).length

/-- The state of an occupied cue (R86). -/
def Cue.state (c : Cue) : CueState := if c.blockers = 0 then .ready else .blocked

/-- The state and the blockers of a slot (R86, R95). The notice of a DROP carries the count 0 for an EMPTY slot, whose field R86 calls
absent (log 40). -/
def CueSlot.state (q : CueSlot) : CueState := match q.cue with | some c => c.state | none => .empty
def CueSlot.blockers (q : CueSlot) : Nat := match q.cue with | some c => c.blockers | none => 0

/-- The CUE CHANGED notice of a slot as it stands (R95). -/
def Ct.cueNotice (t : Ct) (h : CueHandle) (kind : CueChangeKind) : Notice :=
  .cueChanged h t.slots[h].generation kind t.slots[h].state t.slots[h].blockers

/-- The table with every occupied cue marked from the copies (R90, R91). -/
def Ct.marked (g : GeometryCfg) (t : Ct) : Ct :=
  { t with
    slots := t.slots.map (fun q => { q with cue := q.cue.map (fun c => { c with blockers := blockersAt g t c.target }) }) }

/-- CT recomputes its cues; one notice for each whose state changes, in handle order (R91, R95). -/
def recomputeCues (s : State) : State :=
  let t := s.ct.marked s.cs.record.geometry
  let changed := (handles 32).filter (fun h => decide (t.slots[h].state ≠ s.ct.slots[h].state))
  notifyAll (changed.map (fun h => t.cueNotice h .state)) { s with ct := t }

/-- CT takes ZT's oldest change report (R90, R91). -/
def execChangeReportCt (s : State) : Outcome :=
  match s.chan.ztToCt with
  | [] => .next s
  | r :: rest =>
    whileRunning (fun s =>
      recomputeCues { s with chan := { s.chan with ztToCt := rest }, ct := { s.ct with zones := r.inForce } }) s

/-- CT takes FC's oldest allowance report (R90, R91). -/
def execAllowanceReport (s : State) : Outcome :=
  match s.chan.fcToCt with
  | [] => .next s
  | a :: rest =>
    whileRunning (fun s =>
      recomputeCues { s with chan := { s.chan with fcToCt := rest }, ct := { s.ct with allowance := a } }) s

/-! ## Naming and permission -/

/-- The naming tests, then a check or an effect on the cue named (R88). -/
def onCue (handle gen : Byte) (s : State) (act : CueHandle → Cue → Answer) : Answer :=
  if h : handle.toNat < 32 then
    match s.ct.cue ⟨handle.toNat, h⟩ with
    | none => refuse .noCue s
    | some c => if s.ct.slots[handle.toNat].generation = gen then act ⟨handle.toNat, h⟩ c else refuse .stale s
  else refuse .badField s

/-- A queue row grants a role; SAFETY always (R89, R196). -/
def queueGrants (q : QueueCells) (role : Port) : Bool :=
  match role with
  | .pilot => q.pilot
  | .director => q.director
  | .safety => true

/-- A queue entry names a cue (R87). -/
def QueueEntry.names (e : QueueEntry) (h : CueHandle) (gen : Generation) : Bool :=
  decide (e.handle = h) && decide (e.generation = gen)

/-- The RUNNING entry names a slot's cue (R92, R94). -/
def Ct.runs (t : Ct) (h : CueHandle) : Bool :=
  t.queue.any (fun e => decide (e.status = .running) && e.names h t.slots[h].generation)

/-! ## CUE STORE -/

/-- What a CUE STORE carries beside its handle. -/
structure StoreFields where
  label : List Byte
  target : Vec3
  cruise : Int
  tolerance : Int
  dwell : Int

/-- Check 3 of a store (R92). -/
def StoreFields.fit (f : StoreFields) (g : GeometryCfg) : Bool :=
  decide (f.label.length ≤ 12) && f.label.all (fun b => decide (0x20 ≤ b.toNat) && decide (b.toNat ≤ 0x7E)) &&
  insideVolume g 0 (pointUm f.target) && within 200 9000 f.cruise && within 50 1000 f.tolerance && within 0 600000 f.dwell

/-- The lowest-numbered EMPTY slot (R92). -/
def Ct.emptySlot (t : Ct) : Option CueHandle := (handles 32).find? (fun h => (t.cue h).isNone)

/-- The slot a handle byte names: itself, or absent for "any" (R88, R92). -/
def storeHandle (handle : Byte) : Option (Option CueHandle) :=
  if h : handle.toNat < 32 then some (some ⟨handle.toNat, h⟩) else if handle = 0xFF#8 then some none else none

/-- A store that passes its checks fills or overwrites the slot and marks the cue (R87, R92). -/
def carryOutStore (role : Port) (f : StoreFields) (h : CueHandle) (s : State) : Answer :=
  let old := s.ct.slots[h]
  let cue : Cue :=
    { label := f.label, target := f.target, cruise := f.cruise, tolerance := f.tolerance, dwell := f.dwell, owner := role,
      blockers := blockersAt s.cs.record.geometry s.ct f.target }
  let gen := if old.cue.isNone then old.generation + 1 else old.generation
  let t := { s.ct with slots := put s.ct.slots h { generation := gen, cue := some cue } }
  ⟨.ok, u8 h ++ [gen] ++ u8 cue.state.code ++ u8 cue.blockers, notify (t.cueNotice h .store) { s with ct := t }⟩

/-- CUE STORE: handle, role, fields, table, in use (R92). -/
def cueStore (role : Port) (handle : Byte) (f : StoreFields) (s : State) : Answer :=
  match storeHandle handle with
  | none => refuse .badField s
  | some named =>
    let own := match named.bind s.ct.cue with | some c => decide (c.owner = role) | none => true
    if !rowGrants s.cs.record.matrix.cue role own then refuse .denied s
    else if !f.fit s.cs.record.geometry then refuse .badField s
    else
      match named with
      | some h => if s.ct.runs h then refuse .inUse s else carryOutStore role f h s
      | none =>
        match s.ct.emptySlot with
        | some h => carryOutStore role f h s
        | none => refuse .tableFull s

/-- CUE STORE at CT (R92). -/
def execCueStore (p : Port) (s : State) : Outcome :=
  request p (fun r s =>
    match r with
    | .cueStore handle label target cruise tolerance dwell => some (cueStore p handle ⟨label, target, cruise, tolerance, dwell⟩ s)
    | _ => none) s

/-! ## CUE DROP -/

/-- A run ends by cancellation: its entry is out of the queue, and flight enters HOLD (R103). -/
def cancelRun (s : State) : State := enterHold .normal s

/-- CUE DROP after its naming tests and its role check (R93). A running cue's notices: CUE CHANGED, MODE CHANGED, QUEUE CHANGED (R95,
R103; log 39). -/
def cueDrop (h : CueHandle) (s : State) : Answer :=
  let gen := s.ct.slots[h].generation
  let kept := s.ct.queue.filter (fun e => !e.names h gen)
  let running := s.ct.runs h
  let headGone := match s.ct.queue with | e :: _ => e.names h gen | [] => false
  let t := { s.ct with queue := kept, slots := put s.ct.slots h { generation := gen, cue := none } }
  let s1 := notify (t.cueNotice h .drop) { s with ct := t }
  let s2 := if running then cancelRun s1 else s1
  let s3 := if headGone then startTest s2 else s2
  ⟨.ok, u8 (s.ct.queue.length - kept.length), reportQueue s.ct s3⟩

/-- CUE DROP at CT (R93). -/
def execCueDrop (p : Port) (s : State) : Outcome :=
  request p (fun r s =>
    match r with
    | .cueDrop handle gen =>
      some (onCue handle gen s (fun h c =>
        if rowGrants s.cs.record.matrix.cue p (decide (c.owner = p)) then cueDrop h s else refuse .denied s))
    | _ => none) s

/-! ## CUE READ and CUE LIST -/

/-- What CUE READ carries (R94). -/
def cueRecordBytes (t : Ct) (h : CueHandle) (c : Cue) : List Byte :=
  u8 c.state.code ++ [t.slots[h].generation] ++ counted (fun b => [b]) c.label ++ vec c.target ++ i32 c.cruise ++ i32 c.tolerance ++
  i32 c.dwell ++ u8 c.owner.code ++ u8 c.blockers ++
  u8 (t.queue.filter (fun e => e.names h t.slots[h].generation)).length ++ flag (t.runs h)

/-- CUE READ at CT (R94). -/
def execCueRead (p : Port) (s : State) : Outcome :=
  request p (fun r s =>
    match r with
    | .cueRead handle gen => some (onCue handle gen s (fun h c => ⟨.ok, cueRecordBytes s.ct h c, s⟩))
    | _ => none) s

/-- One entry of CUE LIST for each slot that passes the filter (R94). -/
def Ct.listEntries (t : Ct) (states : Byte) : List (List Byte) :=
  (handles 32).filterMap (fun h =>
    match t.cue h with
    | some c =>
      if decide (states = 0) || states.toNat.testBit c.state.code then
        some (u8 h ++ [t.slots[h].generation] ++ u8 c.state.code ++ u8 c.blockers ++ counted (fun b => [b]) c.label)
      else none
    | none => none)

/-- CUE LIST (R94). Bits stand at R86's positions; EMPTY's is outside the filter (R192). -/
def cueList (states : Byte) (s : State) : Answer :=
  if states &&& 0xF9#8 ≠ 0 then refuse .badField s else ⟨.ok, counted id (s.ct.listEntries states), s⟩

/-- CUE LIST at CT (R94). -/
def execCueList (p : Port) (s : State) : Outcome :=
  request p (fun r s =>
    match r with
    | .cueList states => some (cueList states s)
    | _ => none) s

/-! ## QUEUE ADD -/

/-- The start kind a byte names (R96, R192). -/
def startKindOf (b : Byte) : Option StartKind := if b = 0 then some .auto else if b = 1 then some .call else none

/-- QUEUE ADD after its checks (R104). -/
def carryOutAdd (h : CueHandle) (kind : StartKind) (s : State) : Answer :=
  let entry : QueueEntry := { handle := h, generation := s.ct.slots[h].generation, kind := kind, status := .waiting }
  let s1 := { s with ct := { s.ct with queue := s.ct.queue ++ [entry] } }
  let s2 := if s.ct.queue.isEmpty then startTest s1 else s1
  let status := match s2.ct.queue[s.ct.queue.length]? with | some e => e.status | none => .waiting
  ⟨.ok, u8 (s.ct.queue.length + 1) ++ u8 status.code, reportQueue s.ct s2⟩

/-- QUEUE ADD: role, start kind, naming, capacity (R104). -/
def queueAdd (role : Port) (handle gen kind : Byte) (s : State) : Answer :=
  if !queueGrants s.cs.record.matrix.queueAdd role then refuse .denied s
  else
    match startKindOf kind with
    | none => refuse .badField s
    | some k =>
      onCue handle gen s (fun h _ => if 6 ≤ s.ct.queue.length then refuse .queueFull s else carryOutAdd h k s)

/-- QUEUE ADD at CT (R104). -/
def execQueueAdd (p : Port) (s : State) : Outcome :=
  request p (fun r s =>
    match r with
    | .queueAdd handle gen kind => some (queueAdd p handle gen kind s)
    | _ => none) s

/-! ## QUEUE TAKE -/

/-- A distance given by its square in µm², in mm as reported (R99; log 8). -/
def reportDistance (square : Nat) : Int :=
  let um := isqrt square
  if um ^ 2 = square ∧ um % 1000 = 0 then ((um / 1000 : Nat) : Int)
  else if Config.reportRoundsUp um then ((um / 1000 : Nat) : Int) + 1 else ((um / 1000 : Nat) : Int)

/-- The result and the content of a QUEUE TAKE. The failing sample of BLOCKED is one optional field: its presence byte, then the distance
and the zone (R105; log 11). -/
def StartOutcome.answer : StartOutcome → Result × List Byte
  | .started => (.ok, [])
  | .notReady => (.blocked, u8 0)
  | .pathBlocked f => (.blocked, u8 1 ++ i32 (reportDistance f.distance2) ++ u8 f.zone)

/-- QUEUE TAKE on a queue with a head (R105). -/
def takeHead (e : QueueEntry) (s : State) : Answer :=
  let s1 := { s with ct := { s.ct with queue := setHead .waiting s.ct.queue, halted := false } }
  let (s2, outcome) := runStart { e with status := .waiting } s1
  ⟨outcome.answer.1, outcome.answer.2, notify s2.ct.queueNotice s2⟩

/-- QUEUE TAKE: role, empty queue, mode and latch (R105). -/
def queueTake (role : Port) (s : State) : Answer :=
  if !queueGrants s.cs.record.matrix.queueTake role then refuse .denied s
  else
    match s.ct.queue with
    | [] => refuse .empty s
    | e :: _ => if s.fc.mode ≠ .hold ∨ s.fc.latch = true then refuse .mode s else takeHead e s

/-- QUEUE TAKE at CT (R105). -/
def execQueueTake (p : Port) (s : State) : Outcome :=
  request p (fun r s =>
    match r with
    | .queueTake => some (queueTake p s)
    | _ => none) s

/-! ## QUEUE SKIP, QUEUE CLEAR, QUEUE READ -/

/-- QUEUE SKIP on a queue with a head (R106). -/
def skipHead (e : QueueEntry) (rest : List QueueEntry) (s : State) : Answer :=
  let running := decide (e.status = .running)
  let s1 := { s with ct := { s.ct with queue := rest, halted := s.ct.halted || running } }
  let s2 := if running then cancelRun s1 else s1
  ⟨.ok, u8 e.handle ++ [e.generation] ++ u8 e.status.code ++ u8 rest.length, reportQueue s.ct (startTest s2)⟩

/-- QUEUE SKIP at CT (R106). -/
def execQueueSkip (p : Port) (s : State) : Outcome :=
  request p (fun r s =>
    match r with
    | .queueSkip =>
      some (if !queueGrants s.cs.record.matrix.queueSkip p then refuse .denied s
        else match s.ct.queue with
          | [] => refuse .empty s
          | e :: rest => skipHead e rest s)
    | _ => none) s

/-- QUEUE CLEAR (R107). -/
def queueClear (s : State) : Answer :=
  let running := s.ct.queue.any (fun e => decide (e.status = .running))
  let s1 := { s with ct := { s.ct with queue := [], halted := false, dwell := none } }
  let s2 := if running then cancelRun s1 else s1
  let same := s.ct.queue.isEmpty && !s.ct.halted && s.ct.dwell.isNone
  ⟨.ok, u8 s.ct.queue.length, if same then s2 else notify s2.ct.queueNotice s2⟩

/-- QUEUE CLEAR at CT (R107). -/
def execQueueClear (p : Port) (s : State) : Outcome :=
  request p (fun r s =>
    match r with
    | .queueClear => some (if !queueGrants s.cs.record.matrix.queueClear p then refuse .denied s else queueClear s)
    | _ => none) s

/-- The time remaining to a timer's expiry in ms, or the mark that it is not running (R108, R142). -/
def timerBytes (now : PartTime) (timer : Option PartTime) : List Byte := optional (fun due => i32 (remainingMs due now)) timer

/-- What QUEUE READ carries (R108). -/
def queueBytes (now : PartTime) (t : Ct) : List Byte :=
  counted (fun q => u8 (q.2 + 1) ++ queueEntryBytes q.1) t.queue.zipIdx ++ flag t.halted ++ timerBytes now t.dwell

/-- QUEUE READ at CT (R108). -/
def execQueueRead (p : Port) (s : State) : Outcome :=
  request p (fun r s =>
    match r with
    | .queueRead => some ⟨.ok, queueBytes s.part.partTime s.ct, s⟩
    | _ => none) s

/-! ## The dwell timer -/

/-- The dwell timer expires (R98). -/
def execDwellTimerExpiry (s : State) : Outcome :=
  onExpiry s.ct.dwell (fun s => reportQueue s.ct (startTest { s with ct := { s.ct with dwell := none } })) s

end Sys2Proof.Machine
end

