-- ==== Sys2Proof/Machine/Flight.lean ====
section
/-! DEFINITION. Flight control between the servo steps: LAUNCH, JOG, HOLD, RETURN and FLIGHT READ, the deadman, launch and settle
timers, and FC's taking of change reports, zone summaries, drive statuses, link states and load flags (chapters 3 and 6). -/

namespace Sys2Proof.Machine

/-! ## Requests -/

/-- All four links are UP by FC's copies (R125, R149, R165). -/
def linksUp (s : State) : Bool := (handles 4).all (fun w => decide (s.fc.links[w] = .up))

/-- LAUNCH: ESTOP line, mode, unconfigured flag, links (R125). -/
def launchCheck (s : State) : Option Result :=
  if s.part.estopLine then some .estop
  else if s.fc.mode ≠ .parked then some .mode
  else if s.cs.unconfigured then some .notConfigured
  else if !linksUp s then some .link
  else none

/-- LAUNCH at FC (R125, R126). -/
def execLaunch (p : Port) (s : State) : Outcome :=
  request p (fun r s =>
    match r with
    | .launch =>
      (match launchCheck s with
       | some result => some (refuse result s)
       | none => some ⟨.ok, [], reportQueue s.ct (enterLaunching s)⟩)
    | _ => none) s

/-- The mode in a response (R129, R135). -/
def modeByte (s : State) : List Byte := u8 s.fc.mode.code

/-- A demand within the range of R129. -/
def demandInRange (d : Vec3) : Bool := within (-9000) 9000 d.x && within (-9000) 9000 d.y && within (-9000) 9000 d.z

/-- The demand is taken and the deadman restarted; a zero demand stops the deadman (R129). -/
def takeDemand (d : Vec3) (s : State) : State :=
  { s with fc := { s.fc with jogDemand := d, deadman := if d = .zero then none else some (afterMs s 250) } }

/-- JOG in the modes that allow it (R129). -/
def jogIn (d : Vec3) (s : State) : Option State :=
  match s.fc.mode with
  | .hold => some (if d = .zero then takeDemand d s else setMode .jog (takeDemand d s))
  | .jog => some (takeDemand d s)
  | .cue => some (setMode .jog (takeDemand d (closeMode s)))
  | .parked | .launching | .evict | .ret _ | .stopped => none

/-- JOG (R129). -/
def jogRequest (d : Vec3) (s : State) : Answer :=
  if !demandInRange d then refuse .badField s
  else
    match jogIn d s with
    | none => refuse .mode s
    | some s' => ⟨.ok, modeByte s', reportQueue s.ct s'⟩

/-- JOG at FC (R129). -/
def execJog (p : Port) (s : State) : Outcome :=
  request p (fun r s =>
    match r with
    | .jog d => some (jogRequest d s)
    | _ => none) s

/-- HOLD in the modes that allow it (R128). -/
def holdIn (s : State) : Option State :=
  match s.fc.mode with
  | .hold => some (if s.fc.latch then startTest (clearLatch s) else clearLatch s)
  | .jog => some (enterHold .normal (clearLatch s))
  | .cue => some (enterHold .normal (closeMode s))
  | .ret .settle => none
  | .ret _ => some (enterHold .normal (clearLatch (closeMode s)))
  | .parked | .launching | .evict | .stopped => none

/-- HOLD: hot flag, mode (R128). -/
def holdRequest (s : State) : Answer :=
  if s.fc.hot then refuse .mode s
  else
    match holdIn s with
    | none => refuse .mode s
    | some s' => ⟨.ok, [], reportQueue s.ct s'⟩

/-- HOLD at FC (R128). -/
def execHold (p : Port) (s : State) : Outcome :=
  request p (fun r s =>
    match r with
    | .hold => some (holdRequest s)
    | _ => none) s

/-- RETURN at FC (R135). -/
def execReturn (p : Port) (s : State) : Outcome :=
  request p (fun r s =>
    match r with
    | .returnDock => some (let s' := returnDemand s; ⟨.ok, modeByte s', reportQueue s.ct s'⟩)
    | _ => none) s

/-! ## FLIGHT READ -/

/-- A point in µm as reported in whole mm (log 8). -/
def reportPoint (p : Vec3) : List Byte := vec ⟨reportMm p.x, reportMm p.y, reportMm p.z⟩

/-- P in whole mm, toward zero (R4); V likewise in mm/s (R142). -/
def pointTowardZero (p : Vec3) : List Byte := vec ⟨mmTowardZero p.x, mmTowardZero p.y, mmTowardZero p.z⟩

def runBytes (r : RunRecord) : List Byte := u8 r.handle ++ [r.generation] ++ vec r.target ++ i32 r.cruise ++ i32 r.tolerance

def evictBytes (r : EvictRecord) : List Byte :=
  u8 r.subject.handle ++ [r.subject.generation] ++ u8 r.dir.code ++ reportPoint r.target ++ i32 (reportMm r.length)

/-- The set of active stop causes (R142, R143, R148). -/
def causesBytes (causes : List CauseEntry) : List Byte := counted causeBytes causes

/-- What FLIGHT READ carries, in the order of R142; the four drive statuses stand without a count (log 45). -/
def flightBytes (s : State) : List Byte :=
  let f := s.fc
  let now := s.part.partTime
  u8 f.mode.code ++ optional u8 f.mode.subState ++ causesBytes f.causes ++
  flag f.p.isSome ++ optional pointTowardZero f.p ++
  pointTowardZero f.v ++ i32 ((isqrt f.v.norm2 / 1000 : Nat) : Int) ++
  i32 (f.lastA / 1000) ++
  i32 f.lastCap ++ u8 f.lastCapTerm.code ++
  i32 s.cs.record.motion.maxSpeed ++ i32 f.maxSpeed ++
  flag f.latch ++ flag f.high ++ flag f.warm ++ flag f.hot ++
  vec f.jogDemand ++ timerBytes now f.deadman ++
  optional runBytes f.run ++ optional evictBytes f.evict ++ optional reportPoint f.legGoal ++
  timerBytes now (if f.mode = .stopped then none else f.launchTimer.or f.settleTimer) ++
  f.driveStatus.toList.flatMap (optional (fun d => u8 d.code))

/-- FLIGHT READ at FC (R142). -/
def execFlightRead (p : Port) (s : State) : Outcome :=
  request p (fun r s =>
    match r with
    | .flightRead => some ⟨.ok, flightBytes s, s⟩
    | _ => none) s

/-! ## Timers -/

/-- The deadman timer expires: the demand becomes zero (R130). -/
def execDeadmanExpiry (s : State) : Outcome :=
  onExpiry s.fc.deadman (fun s => { s with fc := { s.fc with deadman := none, jogDemand := .zero } }) s

/-- The launch timer expires: LAUNCH_FAIL (R126). -/
def execLaunchTimerExpiry (s : State) : Outcome :=
  onExpiry s.fc.launchTimer (fun s => raiseCause .launchFail { s with fc := { s.fc with launchTimer := none } }) s

/-- The settle timer expires: PARK_FAIL (R139). -/
def execSettleTimerExpiry (s : State) : Outcome :=
  onExpiry s.fc.settleTimer (fun s => raiseCause .parkFail { s with fc := { s.fc with settleTimer := none } }) s

/-! ## Zone changes -/

/-- Step 1 of R132: FC's copies. -/
def takeCopies (r : ChangeReport) (s : State) : State :=
  { s with fc := { s.fc with zones := r.inForce, nearCap := r.nearCap, subject := r.subject } }

/-- A report or a summary that names no subject clears EVICT_BLOCKED (R69). -/
def clearIfNoSubject (s : State) : State := if s.fc.subject.isNone then setEvictBlocked false s else s

/-- The end of an eviction (R67). -/
def endEviction (s : State) : State := enterHold .normal { s with fc := { s.fc with evict := none } }

/-- The remaining path of an eviction is re-checked against the ARMED zones other than the subject (R66). -/
def evictionPathFails (e : EvictRecord) (s : State) : Bool :=
  match s.fc.p with
  | some p => (pathCheck s.cs.record.geometry s.fc.lastA (armedOthers s.fc.zones e.subject) p e.target).isSome
  | none => false

/-- A change report acts on the eviction (R66, R67, R71). -/
def reportOnEviction (r : ChangeReport) (s : State) : State :=
  match s.fc.evict with
  | none => endEviction s
  | some e =>
    if r.subject ≠ some e.subject then endEviction s
    else if r.changes.any (fun c => decide (c.handle = e.subject.handle) && decide (c.kind = .shift)) then chooseAgain s
    else if evictionPathFails e s then chooseAgain s
    else s

/-- The goal of a path re-check: the run's target, or the leg goal (R133). -/
def recheckGoal (s : State) : Option Vec3 :=
  match s.fc.mode with
  | .cue => s.fc.run.map (fun r => pointUm r.target)
  | .ret .rise | .ret .traverse | .ret .descend => s.fc.legGoal
  | .parked | .launching | .hold | .jog | .evict | .ret .settle | .stopped => none

/-- A re-check that fails: the run is CUT, or the return blocked (R133). -/
def recheckFails (s : State) : State :=
  if s.fc.mode = .cue then enterHold .normal (haltHead .cut s) else blockReturn s

/-- Step 3 of R132: the path re-check (R133). -/
def recheckPath (s : State) : State :=
  match recheckGoal s with
  | none => s
  | some goal => if (checkPath s goal).isSome then recheckFails s else s

/-- Step 4 of R132: a blocked return retries at a relieving report (R138). -/
def retryReturn (relieving : Bool) (s : State) : State :=
  if s.fc.mode = .hold ∧ s.fc.returnBlocked = true ∧ relieving = true then startReturnInHold s else s

/-- Step 2 of R132. -/
def reportStep2 (r : ChangeReport) (s : State) : State :=
  if s.fc.mode = .evict then reportOnEviction r s else evictionTest (clearIfNoSubject s)

/-- FC takes a change report (R132). -/
def takeChangeReport (r : ChangeReport) (s : State) : State :=
  reportQueue s.ct (retryReturn r.relieving (recheckPath (reportStep2 r (takeCopies r s))))

/-- FC takes ZT's oldest message where it is a change report (R132). -/
def execChangeReportFc (s : State) : Outcome :=
  takeFc .zt (fun m => match m with | .change r => some (takeChangeReport r) | _ => none) s

/-- A zone summary in EVICT ends an eviction whose subject it does not name; in other modes it applies the start test while
EVICT_BLOCKED is not live (R67, R69, R132). -/
def summaryActs (s : State) : State :=
  if s.fc.mode = .evict then
    if s.fc.subject = s.fc.evict.map EvictRecord.subject then s else endEviction s
  else
    let s := clearIfNoSubject s
    if s.fc.evictBlocked then s else evictionTest s

/-- FC takes a zone summary (R55, R132). -/
def takeSummary (nearCap : Option Int) (subject : Option ZoneName) (s : State) : State :=
  reportQueue s.ct (summaryActs { s with fc := { s.fc with nearCap := nearCap, subject := subject } })

/-- FC takes ZT's oldest message where it is a zone summary (R55, R132). -/
def execZoneSummary (s : State) : Outcome :=
  takeFc .zt (fun m => match m with | .summary c n => some (takeSummary c n) | _ => none) s

/-! ## Drives, links and load flags -/

/-- FC takes a drive status and tests it in LAUNCHING and in SETTLE (R126, R139). -/
def takeDriveStatus (w : Winch) (d : DriveStatus) (s : State) : State :=
  let s1 := { s with fc := { s.fc with driveStatus := put s.fc.driveStatus w (some d) } }
  reportQueue s.ct (if s.fc.mode = .launching then testLaunch s1 else testSettle s1)

/-- FC takes WLC's oldest message where it is a drive status (R126, R139, R162). -/
def execDriveStatus (s : State) : Outcome :=
  takeFc .wlc (fun m => match m with | .driveStatus w d => some (takeDriveStatus w d) | _ => none) s

/-- FC takes WLC's oldest message where it is a link state (R165). -/
def execLinkState (s : State) : Outcome :=
  takeFc .wlc (fun m =>
    match m with
    | .linkState w l => some (fun s => { s with fc := { s.fc with links := put s.fc.links w l } })
    | _ => none) s

/-- FC takes the hot flag; its rise acts as a RETURN in the current mode (R140). -/
def takeHot (set : Bool) (s : State) : State :=
  let s1 := { s with fc := { s.fc with hot := set } }
  if set && !s.fc.hot then reportQueue s.ct (returnDemand s1) else s1

/-- FC takes LM's oldest message where it is the hot flag (R140, R183). -/
def execHotFlag (s : State) : Outcome :=
  takeFc .lm (fun m => match m with | .hot b => some (takeHot b) | _ => none) s

/-- FC takes LM's oldest message where it is the high flag (R117, R183). -/
def execHighFlag (s : State) : Outcome :=
  takeFc .lm (fun m => match m with | .high b => some (fun s => { s with fc := { s.fc with high := b } }) | _ => none) s

/-- FC takes LM's oldest message where it is the warm flag (R117, R183). -/
def execWarmFlag (s : State) : Outcome :=
  takeFc .lm (fun m => match m with | .warm b => some (fun s => { s with fc := { s.fc with warm := b } }) | _ => none) s

end Sys2Proof.Machine
end

