-- ==== Sys2Proof/Machine/Servo.lean ====
section
/-! DEFINITION. The servo step: its eight stages (R114 to R124, R130, R131, R137, R66). Velocities are in µm/s. -/

namespace Sys2Proof.Machine

/-! ## Stages 2 and 3: D and the speed cap -/

/-- The goal of the mode, where it has one (R116). -/
def stepGoal (f : Fc) : Option Vec3 :=
  match f.mode with
  | .cue => f.run.map (fun r => pointUm r.target)
  | .evict => f.evict.map EvictRecord.target
  | .ret .rise | .ret .traverse | .ret .descend => f.legGoal
  | .parked | .launching | .hold | .jog | .ret .settle | .stopped => none

/-- The mode speed in mm/s, where the mode has one (R117). -/
def modeSpeed (c : MotionCfg) (f : Fc) : Option Int :=
  match f.mode with
  | .cue => f.run.map RunRecord.cruise
  | .evict => some c.evictSpeed
  | .ret .rise | .ret .traverse | .ret .descend => some c.returnSpeed
  | .parked | .launching | .hold | .jog | .ret .settle | .stopped => none

/-- The terms of the speed cap that are present, in the order of R142 (R117). -/
def capTerms (c : MotionCfg) (f : Fc) : List (Int × CapTerm) :=
  (match modeSpeed c f with | some v => [(v, CapTerm.modeSpeed)] | none => []) ++
  (match f.nearCap with | some v => [(v, CapTerm.nearCap)] | none => []) ++
  (if f.high then [(c.reducedHigh, CapTerm.reducedHigh)] else []) ++
  (if f.warm then [(c.reducedWarm, CapTerm.reducedWarm)] else [])

/-- The speed cap with the first term that gives it (R117, R142). -/
def speedCap (c : MotionCfg) (f : Fc) : Int × CapTerm :=
  (capTerms c f).foldl (fun best t => if t.1 < best.1 then t else best) (c.maxSpeed, .maxSpeed)

/-- D after the clip: a vector; a direction with a speed; or a direction d with a speed whose square is k times the length of d. -/
inductive Demand where
  | vec (v : Vec3)
  | along (d : Vec3) (speed : Int)
  | root (d : Vec3) (k : Nat)
deriving DecidableEq, Repr

/-- D toward a goal: its magnitude is the lesser of the cap and √(2 × DECEL × d), since the cap is never above the mode speed
(R116, R117). -/
def goalDemand (decel cap : Int) (p goal : Vec3) : Demand :=
  let d := goal.sub p
  let k := (2000 * decel).toNat
  if d = .zero then .vec .zero
  else if (1000 * cap).toNat ^ 4 ≤ k ^ 2 * d.norm2 then .along d (1000 * cap)
  else .root d k

/-- The jog demand, clipped to the cap (R116, R117). -/
def jogVelocity (cap : Int) (jog : Vec3) : Demand :=
  if (1000 * cap).toNat ^ 2 < (jog.scale 1000).norm2 then .along jog (1000 * cap) else .vec (jog.scale 1000)

/-- The clipped D of a step (R116, R117). -/
def clippedDemand (decel cap : Int) (f : Fc) (p : Vec3) : Demand :=
  match stepGoal f with
  | some goal => goalDemand decel cap p goal
  | none => if f.mode = .jog then jogVelocity cap f.jogDemand else .vec .zero

/-- The magnitude of D is greater than the magnitude of V (R119). -/
def Demand.faster (d : Demand) (v : Vec3) : Bool :=
  match d with
  | .vec w => decide (v.norm2 < w.norm2)
  | .along _ speed => decide (v.norm2 < speed.toNat ^ 2)
  | .root e k => decide (v.norm2 ^ 2 < k ^ 2 * e.norm2)

/-- D itself, enclosed. -/
def Demand.enclosed : Demand → IvVec
  | .vec v => .ofVec v
  | .along d speed => IvVec.scale ((Iv.ofInt speed).div (.ofSqrt d.norm2)) (.ofVec d)
  | .root d k => IvVec.scale ((((Iv.ofInt k).mul (.ofSqrt d.norm2)).sqrt).div (.ofSqrt d.norm2)) (.ofVec d)

/-! ## Stages 4 and 5: the rate limit and approach limiting -/

/-- V moved toward D under the rate limit, and rounded on each axis, also where that takes |V| above a cap it has met (R118, R119; log 41). -/
def rateLimited (c : MotionCfg) (d : Demand) (v : Vec3) : Vec3 :=
  let limit := Iv.ofInt (5 * (if d.faster v then c.accel else c.decel))
  let diff := d.enclosed.sub (.ofVec v)
  let length := diff.norm2.sqrt
  if length.hi ≤ limit.lo then d.enclosed.round .velocity
  else ((IvVec.ofVec v).add (IvVec.scale ((limit.div length).min (.ofInt 1)) diff)).round .velocity

/-- The margin of a pair in µm, enclosed: the gap less STANDOFF, or zero (R120; log 9). -/
def margin (g : GeometryCfg) (e z : Box) : Iv :=
  let n := (gaps e z).norm2
  if (n : Int) ≤ (1000 * g.standoff) ^ 2 then .ofInt 0 else (Iv.ofSqrt n).sub (.ofInt (1000 * g.standoff))

/-- The approach limit for a margin: the lesser of √(2 × DECEL × m) and m ÷ 5 ms (R120). -/
def approachLimit (decel : Int) (m : Iv) : Iv := (((Iv.ofInt (2000 * decel)).mul m).sqrt).min ((Iv.ofInt 200).mul m)

/-- V with its closing component toward one zone limited (R120). -/
def limitToward (g : GeometryCfg) (decel : Int) (e : Box) (v : Vec3) (zone : ForceZone) : Vec3 :=
  let z := boxUm zone.box
  let c := closingVector e z
  let length := Iv.ofSqrt c.norm2
  let closing := (Iv.ofInt (v.x * c.x + v.y * c.y + v.z * c.z)).div length
  let excess := closing.sub (approachLimit decel (margin g e z))
  if excess.hi ≤ 0 then v
  else ((IvVec.ofVec v).sub (IvVec.scale ((excess.max (.ofInt 0)).div length) (.ofVec c))).round .velocity

/-- Approach limiting, zone by zone in handle order (R120). -/
def approachLimited (g : GeometryCfg) (decel : Int) (zones : List ForceZone) (e : Box) (v : Vec3) : Vec3 :=
  zones.foldl (limitToward g decel e) v

/-! ## Stage 6: the step check -/

/-- The displacement of a step in µm (R121). -/
def displacement (v : Vec3) : Vec3 :=
  ⟨roundNearest .displacement v.x 200, roundNearest .displacement v.y 200, roundNearest .displacement v.z 200⟩

/-- A zone refuses the step from p to q (R121). -/
def refusesStep (g : GeometryCfg) (a : Int) (p q : Vec3) (z : ForceZone) : Bool :=
  match z.state with
  | .armed => decide (clearance g q a z.box < g.standoff)
  | .pending => decide (clearance g q a z.box < min (clearance g p a z.box) g.standoff)
  | .suspended => false

/-- The step check passes for a displacement: a zero one is not checked (R121). It tests zones alone, so a jog may carry P outside the
working volume (R2; log 47). -/
def stepPasses (g : GeometryCfg) (a : Int) (zones : List ForceZone) (p d : Vec3) : Bool :=
  decide (d = .zero) || zones.all (fun z => !refusesStep g a p (p.add d) z)

/-- What stages 2 to 6 leave: P and V, whether the step was refused, whether P moved, and the cap with its term. -/
structure Motion where
  p : Option Vec3
  v : Vec3
  refused : Bool
  moved : Bool
  cap : Int × CapTerm
deriving DecidableEq, Repr

/-- Stages 2 to 6 with the step's A; they leave P absent and V zero while the position is invalid (R114). -/
def stepMotion (r : Record) (f : Fc) (a : Int) : Motion :=
  let cap := speedCap r.motion f
  match f.p with
  | none => { p := none, v := .zero, refused := false, moved := false, cap := cap }
  | some p =>
    let v4 := rateLimited r.motion (clippedDemand r.motion.decel cap.1 f p) f.v
    let v := approachLimited r.geometry r.motion.decel f.zones (envelope r.geometry p a) v4
    let d := displacement v
    if stepPasses r.geometry a f.zones p d then
      { p := some (p.add d), v := v, refused := false, moved := decide (d ≠ .zero), cap := cap }
    else { p := some p, v := .zero, refused := true, moved := false, cap := cap }

/-! ## Stage 7: handing on -/

/-- The position report of a step (R48, R123). -/
def sendPosition (a : Int) (s : State) : State :=
  { s with chan := { s.chan with fcToZt := s.chan.fcToZt ++ [{ p := s.fc.p, a := a }] } }

/-- The allowance report, where A differs from the value last sent (R91, R123). -/
def sendAllowance (a : Int) (s : State) : State :=
  if a = s.fc.allowanceSent then s
  else { s with chan := { s.chan with fcToCt := s.chan.fcToCt ++ [a] }, fc := { s.fc with allowanceSent := a } }

/-- PINNED: raised at a refused step, cleared at a step that moves P (R122). -/
def updatePinned (m : Motion) (s : State) : State :=
  if m.refused then setPinned true s else if m.moved then setPinned false s else s

/-- LOW_PASS: the low-over-pitch test, clear while the position is invalid (R124). -/
def updateLowPass (a : Int) (s : State) : State :=
  match s.fc.p with
  | some p => setLowPass (lowOverPitch s.cs.record.geometry p a) s
  | none => setLowPass false s

/-- Stage 7: targets and their round, position report, allowance report, PINNED and LOW_PASS (R114, R123, R155). -/
def handOnStep (m : Motion) (a : Int) (s : State) : State :=
  updateLowPass a (updatePinned m (sendAllowance a (sendPosition a (startRound (handTargets s)))))

/-! ## Stage 8: the mode's test -/

/-- The magnitude of V is below 50 mm/s (R66, R131, R137). -/
def nearlyStopped (v : Vec3) : Bool := decide (v.norm2 < 50000 ^ 2)

/-- P lies within some mm of a point (R66, R131, R137). -/
def withinMm (mm : Int) (p q : Vec3) : Bool := decide ((p.dist2 q : Int) ≤ (1000 * mm) ^ 2)

/-- A run's arrival: the entry leaves, the dwell starts, flight enters HOLD (R98, R102). -/
def arrive (r : RunRecord) (s : State) : State :=
  let dwell := match s.ct.cue r.handle with | some c => c.dwell.toNat | none => 0
  enterHold .normal
    { s with ct := { s.ct with queue := s.ct.queue.tail, dwell := if dwell = 0 then none else some (afterMs s dwell) } }

/-- The next leg begins, or blocks the return (R136, R137). -/
def nextLeg (leg : Leg) (s : State) : State :=
  match beginLeg leg s with
  | some s' => s'
  | none => blockReturn s

/-- A leg completes (R137). -/
def completeLeg (leg : Leg) (s : State) : State :=
  match leg with
  | .rise => nextLeg .traverse s
  | .traverse => nextLeg .descend s
  | .descend => enterSettle s
  | .settle => s

/-- The subject is still PENDING in FC's copy (R66). -/
def subjectPending (e : EvictRecord) (s : State) : Bool :=
  match subjectZone s.fc.zones e.subject with
  | some z => decide (z.state = .pending)
  | none => false

/-- Stage 8 of a step that was not refused: the mode's own test (R66, R114, R130, R131, R137). -/
def modeTest (p : Vec3) (s : State) : State :=
  match s.fc.mode with
  | .jog => if s.fc.jogDemand = .zero ∧ s.fc.v = .zero then enterHold .normal s else s
  | .cue =>
    (match s.fc.run with
     | some r => if withinMm r.tolerance p (pointUm r.target) ∧ nearlyStopped s.fc.v then arrive r s else s
     | none => s)
  | .evict =>
    (match s.fc.evict with
     | some e => if withinMm 10 p e.target ∧ nearlyStopped s.fc.v ∧ subjectPending e s then chooseAgain s else s
     | none => s)
  | .ret .settle => s
  | .ret leg =>
    (match s.fc.legGoal with
     | some goal => if withinMm 10 p goal ∧ nearlyStopped s.fc.v then completeLeg leg s else s
     | none => s)
  | .parked | .launching | .hold | .stopped => s

/-- What a refused step does to the mode: the eviction or the return is blocked, any other mode stands (R70, R122, R130, R131, R138;
log 15). -/
def refusedTest (s : State) : State :=
  if s.fc.mode = .evict then blockEviction s else if s.fc.mode.isLeg then blockReturn s else s

/-- Stage 8, while the position is valid (R114, R122; log 15). -/
def stage8 (m : Motion) (s : State) : State :=
  match m.p with
  | none => s
  | some p => if m.refused then refusedTest s else modeTest p s

/-! ## The step -/

/-- MAX_SPEED in force at the end of a step, by V as R119 rounded it (R118; log 41). -/
def settleMaxSpeed (s : State) : State :=
  if (s.fc.v.norm2 : Int) ≤ (1000 * s.cs.record.motion.maxSpeed) ^ 2 then
    { s with fc := { s.fc with maxSpeed := s.cs.record.motion.maxSpeed } }
  else s

/-- What stages 1 to 6 leave in FC: P, V, the A and the cap of the step (R114, R142). -/
def applyMotion (m : Motion) (a : Int) (s : State) : State :=
  { s with fc := { s.fc with p := m.p, v := m.v, lastA := a, lastCap := m.cap.1, lastCapTerm := m.cap.2 } }

/-- One servo step (R114). -/
def servoStep (s : State) : State :=
  let s1 := { s with fc := { s.fc with servo := s.fc.servo + 5 } }
  let a := s1.lm.a
  let m := stepMotion s1.cs.record s1.fc a
  settleMaxSpeed (reportQueue s.ct (stage8 m (handOnStep m a (applyMotion m a s1))))

/-- The servo timer expires (R114). -/
def execServoStep (s : State) : Outcome := onExpiry (some s.fc.servo) servoStep s

end Sys2Proof.Machine
end

