-- ==== Sys2Proof/Machine/ConfigStore.lean ====
section
/-! DEFINITION. The Configuration Store's requests and the end of a save: CONFIG READ, CONFIG WRITE, CONFIG SAVE, RESTART (R206 to R211,
R187). -/

namespace Sys2Proof.Machine

/-! ## Ranges and cross-checks -/

/-- MOTION's ranges (R66, R117, R119, R25). -/
def motionInRange (c : MotionCfg) : Bool :=
  within 1000 9000 c.maxSpeed && within 500 4000 c.accel && within 500 6000 c.decel && within 200 3000 c.evictSpeed &&
  within 500 4000 c.returnSpeed && within 200 6000 c.reducedHigh && within 200 6000 c.reducedWarm

/-- FOLLOWING's ranges (R12, R181). -/
def followingInRange (c : FollowingCfg) : Bool := within 50 1000 c.followTol && within 100 2000 c.followTime

/-- A winch's ranges (R164, R177 to R180). -/
def winchInRange (c : WinchCfg) : Bool :=
  within 0 65535 c.scale && within (-32768) 32767 c.offset && decide (c.shift ≤ 7) && within 100 5000 c.slackLim &&
  within 1000 19000 c.highLim && within 2000 19500 c.overLim && within 0 1000 c.tensHyst && within 50 1000 c.slackTime &&
  within 40 150 c.warmLim && within 50 160 c.hotLim && within 0 15 c.tempHyst && decide (1 ≤ c.wdMin) && decide (c.wdMin ≤ 20)

/-- SAG's ranges (R184, R185). -/
def sagInRange (c : SagCfg) : Bool := within 0 20000 c.tRef && within 10 2000 c.riseRate && within 5 500 c.fallRate

/-- The cross-checks of a winch (R187). -/
def winchConsistent (c : WinchCfg) : Bool :=
  decide (c.slackLim + c.tensHyst < c.highLim - c.tensHyst) && decide (c.highLim < c.overLim) && decide (c.warmLim < c.hotLim)

/-! ## Groups as bytes, in the order of R206 (log 11) -/

def geometryBytes (g : GeometryCfg) : List Byte :=
  i32 g.xSize ++ i32 g.ySize ++ i32 g.height ++ i32 g.floor ++ i32 g.ceilingClear ++ i32 g.rH ++ i32 g.rB ++ i32 g.rT ++
  i32 g.standoff ++ vec g.dock ++ i32 g.dockTol ++ i32 g.transitZ ++ i32 g.pxLo ++ i32 g.pxHi ++ i32 g.pyLo ++ i32 g.pyHi ++
  i32 g.cautionZ

def motionBytes (c : MotionCfg) : List Byte :=
  i32 c.maxSpeed ++ i32 c.accel ++ i32 c.decel ++ i32 c.evictSpeed ++ i32 c.returnSpeed ++ i32 c.reducedHigh ++ i32 c.reducedWarm

def followingBytes (c : FollowingCfg) : List Byte := i32 c.followTol ++ i32 c.followTime

def winchCfgBytes (c : WinchCfg) : List Byte :=
  u16 c.scale.toNat ++ u16 (BitVec.ofInt 16 c.offset).toNat ++ u8 c.shift ++ i32 c.slackLim ++ i32 c.highLim ++ i32 c.overLim ++
  i32 c.tensHyst ++ i32 c.slackTime ++ u8 c.warmSrc.code ++ u8 c.hotSrc.code ++ u8 c.warmLim.toNat ++ u8 c.hotLim.toNat ++
  u8 c.tempHyst.toNat ++ u8 c.policy.code ++ u8 c.wdMin

def sagBytes (c : SagCfg) : List Byte := i32 c.tRef ++ u8 c.sagDiv.code ++ i32 c.riseRate ++ i32 c.fallRate ++ flag c.direct

def rowBytes (r : RoleCells) : List Byte := u8 r.pilot.code ++ u8 r.director.code

/-- A queue row; each cell is a flag, 1 for a grant and 0 for a refusal (R196; log 44). -/
def queueRowBytes (r : QueueCells) : List Byte := flag r.pilot ++ flag r.director

/-- The matrix row by row, PILOT's cell before DIRECTOR's (R22, R89, R196; log 45). -/
def matrixBytes (m : MatrixCfg) : List Byte :=
  rowBytes m.fixedAll ++ rowBytes m.playPut ++ rowBytes m.playSuspend ++ rowBytes m.playDrop ++ rowBytes m.tempAll ++ rowBytes m.cue ++
  queueRowBytes m.queueAdd ++ queueRowBytes m.queueTake ++ queueRowBytes m.queueSkip ++ queueRowBytes m.queueClear

def storedBytes (z : StoredZone) : List Byte := boxBytes z.box ++ i32 z.guard ++ i32 z.hyst ++ i32 z.cap ++ u8 z.group

/-! ## Groups from bytes -/

/-- A signed number of two bytes. -/
def signed16 (n : Nat) : Int := (BitVec.ofNat 16 n).toInt

def cellOf (b : Byte) : Option Cell :=
  match b.toNat with
  | 0 => some .no
  | 1 => some .owned
  | 2 => some .any
  | _ => none

def tempSourceOf (b : Byte) : Option TempSource :=
  match b.toNat with
  | 0 => some .winding
  | 1 => some .heatsink
  | _ => none

def policyOf (b : Byte) : Option Policy :=
  match b.toNat with
  | 0 => some .accept
  | 1 => some .keep
  | 2 => some .miss
  | _ => none

/-- SAG_DIV by its position in R184's list (log 44). -/
def sagDivOf (b : Byte) : Option SagDiv :=
  match b.toNat with
  | 0 => some .n5
  | 1 => some .n10
  | 2 => some .n20
  | 3 => some .n40
  | 4 => some .off
  | _ => none

def baudOf (rate : Int) : Option Baud :=
  if rate = 115200 then some .b115200 else if rate = 460800 then some .b460800 else if rate = 921600 then some .b921600 else none

def readGeometry (bs : List Byte) : Option GeometryCfg := do
  let (xSize, bs) ← getI32 bs
  let (ySize, bs) ← getI32 bs
  let (height, bs) ← getI32 bs
  let (floor, bs) ← getI32 bs
  let (ceilingClear, bs) ← getI32 bs
  let (rH, bs) ← getI32 bs
  let (rB, bs) ← getI32 bs
  let (rT, bs) ← getI32 bs
  let (standoff, bs) ← getI32 bs
  let (dock, bs) ← getVec bs
  let (dockTol, bs) ← getI32 bs
  let (transitZ, bs) ← getI32 bs
  let (pxLo, bs) ← getI32 bs
  let (pxHi, bs) ← getI32 bs
  let (pyLo, bs) ← getI32 bs
  let (pyHi, bs) ← getI32 bs
  let cautionZ ← whole (getI32 bs)
  return { xSize, ySize, height, floor, ceilingClear, rH, rB, rT, standoff, dock, dockTol, transitZ, pxLo, pxHi, pyLo, pyHi, cautionZ }

def readMotion (bs : List Byte) : Option MotionCfg := do
  let (maxSpeed, bs) ← getI32 bs
  let (accel, bs) ← getI32 bs
  let (decel, bs) ← getI32 bs
  let (evictSpeed, bs) ← getI32 bs
  let (returnSpeed, bs) ← getI32 bs
  let (reducedHigh, bs) ← getI32 bs
  let reducedWarm ← whole (getI32 bs)
  return { maxSpeed, accel, decel, evictSpeed, returnSpeed, reducedHigh, reducedWarm }

def readFollowing (bs : List Byte) : Option FollowingCfg := do
  let (followTol, bs) ← getI32 bs
  let followTime ← whole (getI32 bs)
  return { followTol, followTime }

def readWinch (bs : List Byte) : Option WinchCfg := do
  let (scale, bs) ← getU16 bs
  let (offset, bs) ← getU16 bs
  let (shift, bs) ← getU8 bs
  let (slackLim, bs) ← getI32 bs
  let (highLim, bs) ← getI32 bs
  let (overLim, bs) ← getI32 bs
  let (tensHyst, bs) ← getI32 bs
  let (slackTime, bs) ← getI32 bs
  let (warmSrc, bs) ← getU8 bs
  let warmSrc ← tempSourceOf warmSrc
  let (hotSrc, bs) ← getU8 bs
  let hotSrc ← tempSourceOf hotSrc
  let (warmLim, bs) ← getU8 bs
  let (hotLim, bs) ← getU8 bs
  let (tempHyst, bs) ← getU8 bs
  let (policy, bs) ← getU8 bs
  let policy ← policyOf policy
  let wdMin ← whole (getU8 bs)
  return { scale := scale, offset := signed16 offset, shift := shift.toNat, slackLim, highLim, overLim, tensHyst, slackTime,
           warmSrc, hotSrc, warmLim := warmLim.toNat, hotLim := hotLim.toNat, tempHyst := tempHyst.toNat, policy, wdMin := wdMin.toNat }

def readSag (bs : List Byte) : Option SagCfg := do
  let (tRef, bs) ← getI32 bs
  let (sagDiv, bs) ← getU8 bs
  let sagDiv ← sagDivOf sagDiv
  let (riseRate, bs) ← getI32 bs
  let (fallRate, bs) ← getI32 bs
  let direct ← whole (getU8 bs)
  let direct ← flagOf direct
  return { tRef, sagDiv, riseRate, fallRate, direct }

def readRow (bs : List Byte) : Option (RoleCells × List Byte) := do
  let (a, bs) ← getU8 bs
  let (b, bs) ← getU8 bs
  let pilot ← cellOf a
  let director ← cellOf b
  return (⟨pilot, director⟩, bs)

/-- A queue row, its cells as flags (R196; log 44). -/
def readQueueRow (bs : List Byte) : Option (QueueCells × List Byte) := do
  let (a, bs) ← getU8 bs
  let (b, bs) ← getU8 bs
  let pilot ← flagOf a
  let director ← flagOf b
  return (⟨pilot, director⟩, bs)

def readMatrix (bs : List Byte) : Option MatrixCfg := do
  let (fixedAll, bs) ← readRow bs
  let (playPut, bs) ← readRow bs
  let (playSuspend, bs) ← readRow bs
  let (playDrop, bs) ← readRow bs
  let (tempAll, bs) ← readRow bs
  let (cue, bs) ← readRow bs
  let (queueAdd, bs) ← readQueueRow bs
  let (queueTake, bs) ← readQueueRow bs
  let (queueSkip, bs) ← readQueueRow bs
  let queueClear ← whole (readQueueRow bs)
  return { fixedAll, playPut, playSuspend, playDrop, tempAll, cue, queueAdd, queueTake, queueSkip, queueClear }

/-! ## CONFIG READ -/

/-- The unconfigured flag, the save state (IDLE 0, SAVING 1: log 44) with the time remaining, and the last save (R207). -/
def statusBytes (now : PartTime) (c : Cs) : List Byte :=
  flag c.unconfigured ++
  (match c.save with
   | .idle => u8 0 ++ u8 0
   | .saving _ ends => u8 1 ++ u8 1 ++ i32 (remainingMs ends now)) ++
  optional word32 c.lastSave

/-- The fields of a group; a WINCH group needs its winch (R206, R207). -/
def groupBytes (c : Cs) (group : Group) (winch : Option Byte) : Option (List Byte) :=
  match group with
  | .geometry => some (geometryBytes c.record.geometry)
  | .motion => some (motionBytes c.record.motion)
  | .following => some (followingBytes c.record.following)
  | .winch => (winch.bind winchOf).map (fun w => winchCfgBytes c.record.winch[w])
  | .sag => some (sagBytes c.record.sag)
  | .matrix => some (matrixBytes c.record.matrix)
  | .ports => some (i32 c.record.baud.rate)
  | .stored => some (counted storedBytes c.storedFixed)

/-- CONFIG READ (R207). The status fields follow the group's, and a read of STORED carries them too (log 49). -/
def configRead (group : Byte) (winch : Option Byte) (s : State) : Answer :=
  match (groupOf group).bind (fun g => groupBytes s.cs g winch) with
  | some fields => ⟨.ok, fields ++ statusBytes s.part.partTime s.cs, s⟩
  | none => refuse .badField s

/-- CONFIG READ at CS (R207). -/
def execConfigRead (p : Port) (s : State) : Outcome :=
  request p (fun r s =>
    match r with
    | .configRead group winch => some (configRead group winch s)
    | _ => none) s

/-! ## CONFIG WRITE -/

/-- The working record is replaced. -/
def setRecord (r : Record) (s : State) : State := { s with cs := { s.cs with record := r } }

/-- The boxes of every zone slot that is not FREE (R15, R208). -/
def zoneBoxes (s : State) : List Box := (handles 48).filterMap (fun h => (s.zt.zone h).map Zone.box)

/-- The targets of every occupied cue (R15, R208). -/
def cueTargets (s : State) : List Vec3 := (handles 32).filterMap (fun h => (s.ct.cue h).map Cue.target)

/-- Geometry writes are taken in PARKED, and in STOPPED with the position invalid (R208). -/
def geometryAllowed (s : State) : Bool := decide (s.fc.mode = .parked) || (decide (s.fc.mode = .stopped) && s.fc.p.isNone)

/-- STANDOFF or the envelope changes (R53, R91). -/
def envelopeChanges (old new : GeometryCfg) : Bool :=
  decide (old.standoff ≠ new.standoff ∨ old.rH ≠ new.rH ∨ old.rB ≠ new.rB ∨ old.rT ≠ new.rT)

/-- ZT re-evaluates its table, while the position is valid (R53). -/
def reevaluate (s : State) : State := if s.zt.report.p.isSome then evaluateReport s else s

/-- A write of GEOMETRY takes effect: ZT's re-evaluation, then CT's marking, which also orders their notices (R53, R91, R208; log 39). -/
def writeGeometry (g : GeometryCfg) (s : State) : State :=
  let s' := setRecord { s.cs.record with geometry := g } s
  if envelopeChanges s.cs.record.geometry g then recomputeCues (reevaluate s') else s'

/-- A write of MOTION takes effect (R118, R208). -/
def writeMotion (c : MotionCfg) (s : State) : State :=
  let s' := setRecord { s.cs.record with motion := c } s
  if c.maxSpeed = s.cs.record.motion.maxSpeed then s' else settleMaxSpeed s'

/-- A write of a winch's group takes effect; what its last closure made due comes first (R187, R208; log 10). -/
def writeWinch (w : Winch) (c : WinchCfg) (s : State) : State :=
  let s := settleLink w s
  winchWritten w (setRecord { s.cs.record with winch := put s.cs.record.winch w c } s)

/-- A value read from bytes that passes a check. -/
def checked {α : Type} (read : Option α) (ok : α → Bool) : Option α := read.filter ok

/-- A write's effect where its fields pass checks 4 and 5 (R208). -/
def groupWrite (group : Group) (bs : List Byte) (s : State) : Option State :=
  let r := s.cs.record
  match group with
  | .geometry =>
    (checked (readGeometry bs) (fun g => geometryConsistent g (zoneBoxes s) (cueTargets s))).map (fun g => writeGeometry g s)
  | .motion => (checked (readMotion bs) motionInRange).map (fun c => writeMotion c s)
  | .following =>
    (checked (readFollowing bs) followingInRange).map (fun c => followingWritten (setRecord { r with following := c } s))
  | .winch =>
    (match bs with
     | [] => none
     | n :: bs =>
       (winchOf n).bind (fun w =>
         (checked (readWinch bs) (fun c => winchInRange c && winchConsistent c)).map (fun c => writeWinch w c s)))
  | .sag => (checked (readSag bs) sagInRange).map (fun c => recomputeTarget (setRecord { r with sag := c } s))
  | .matrix => (readMatrix bs).map (fun m => setRecord { r with matrix := m } s)
  | .ports => ((whole (getI32 bs)).bind baudOf).map (fun b => setRecord { r with baud := b } s)
  | .stored => none

/-- A save is in progress (R209). -/
def Cs.saving (c : Cs) : Bool :=
  match c.save with
  | .idle => false
  | .saving _ _ => true

/-- CONFIG WRITE: save state, group, mode for GEOMETRY, fields (R208). -/
def configWrite (group : Byte) (bs : List Byte) (s : State) : Answer :=
  if s.cs.saving then refuse .saving s
  else
    match groupOf group with
    | none => refuse .badField s
    | some g =>
      if g = .geometry ∧ geometryAllowed s = false then refuse .mode s
      else
        match groupWrite g bs s with
        | some s' => ⟨.ok, [], s'⟩
        | none => refuse .badField s

/-- CONFIG WRITE at CS (R208). -/
def execConfigWrite (p : Port) (s : State) : Outcome :=
  request p (fun r s =>
    match r with
    | .configWrite group bs => some (configWrite group bs s)
    | _ => none) s

/-! ## CONFIG SAVE -/

/-- The zones of class FIXED that are not FREE, in slot order (R209). -/
def fixedZones (s : State) : List Zone :=
  (handles 48).filterMap (fun h => (s.zt.zone h).filter (fun z => decide (z.cls = .fixed)))

/-- What a save stores of a zone (R209). -/
def Zone.stored (z : Zone) : StoredZone := { box := z.box, guard := z.guard, hyst := z.hyst, cap := z.cap, group := z.group }

/-- The snapshots of a save (R209). -/
def snapshot (s : State) : Image := { record := s.cs.record, zones := (fixedZones s).map Zone.stored }

/-- CONFIG SAVE (R209). -/
def configSave (s : State) : Answer :=
  if s.cs.saving then refuse .saving s
  else if s.fc.mode ≠ .parked then refuse .mode s
  else if !(fixedZones s).all (fun z => guardAndCapFit s.cs.record.geometry s.cs.record.motion z.guard z.cap) then refuse .badField s
  else
    ⟨.ok, u8 (fixedZones s).length,
      { s with cs := { s.cs with save := .saving (snapshot s) (afterMs s 300), flash := .incomplete } }⟩

/-- CONFIG SAVE at CS (R209). -/
def execConfigSave (p : Port) (s : State) : Outcome :=
  request p (fun r s =>
    match r with
    | .configSave => some (configSave s)
    | _ => none) s

/-- A save ends: the flash holds the snapshot; the unconfigured flag and CONFIG_DEFAULT clear (R209, R213). -/
def endSave (image : Image) (s : State) : State :=
  let s' :=
    { s with
      cs := { s.cs with
        save := .idle, lastSave := some s.part.partTime, flash := .holds image, storedFixed := image.zones, unconfigured := false } }
  if s.cs.unconfigured then tellSu .cs (.clear condConfigDefault) s' else s'

/-- The save's end (R209). -/
def execSaveEnd (s : State) : Outcome :=
  match s.cs.save with
  | .idle => .next s
  | .saving image ends => onExpiry (some ends) (endSave image) s

/-! ## RESTART -/

/-- RESTART (R211). -/
def restartRequest (s : State) : Answer :=
  if s.cs.saving then refuse .saving s
  else if s.fc.mode ≠ .parked ∧ s.fc.mode ≠ .stopped then refuse .mode s
  else ⟨.ok, [], { s with part := { s.part with restartAccepted := true } }⟩

/-- RESTART at CS (R211). -/
def execRestart (p : Port) (s : State) : Outcome :=
  request p (fun r s =>
    match r with
    | .restart => some (restartRequest s)
    | _ => none) s

end Sys2Proof.Machine
end

