-- ==== Sys2Proof/Machine/Start.lean ====
section
/-! DEFINITION. The start and its causes: power, the reset line, an accepted RESTART (R210 to R213 and the after-start rules of each
chapter). -/

namespace Sys2Proof.Machine

/-- A stored zone passes R24 and R25 against the stored fields (R212). -/
def storedZoneFits (r : Record) (z : StoredZone) : Bool :=
  boxFits r.geometry z.box && guardAndCapFit r.geometry r.motion z.guard z.cap && hystInRange z.hyst && decide (z.group ≤ 7)

/-- The check of a stored image whose CRC matches (R212). -/
def imagePasses (i : Image) : Bool :=
  geometryConsistent i.record.geometry (i.zones.map StoredZone.box) [] && motionInRange i.record.motion &&
  followingInRange i.record.following && i.record.winch.toList.all (fun c => winchInRange c && winchConsistent c) &&
  sagInRange i.record.sag && decide (i.zones.length ≤ 16) && i.zones.all (storedZoneFits i.record)

/-- The image that a start loads: the flash's, where it passes its check (R210, R212; log 22). -/
def loadedImage (f : Flash) : Option Image :=
  match f with
  | .erased | .incomplete => none
  | .holds i => if imagePasses i then some i else none

/-- A stored FIXED zone as it is placed at a start (R23, R47). -/
def loadedZone (z : StoredZone) : Zone :=
  { state := .suspended, cls := .fixed, owner := .safety, box := z.box, guard := z.guard, hyst := z.hyst, cap := z.cap,
    group := z.group, expiry := none, awaiting := true, relation := .off, clearance := none }

/-- The slots after a start: the stored zones from slot 0 on with generation 1, the others FREE with generation 0 (R18, R47). -/
def loadedSlots (zones : List StoredZone) : Vector ZoneSlot 48 :=
  Vector.ofFn (fun h : ZoneHandle =>
    match zones[h.val]? with
    | some z => { generation := 1, zone := some (loadedZone z) }
    | none => { generation := 0, zone := none })

/-- The state after a start that loads a record and its zones, or the defaults (R47, R74, R110, R112, R143, R147, R175, R190, R205, R212). -/
def startWith (record : Record) (zones : List StoredZone) (unconfigured : Bool) (s : State) : State :=
  { part := { supply := true, resetLine := false, estopLine := s.part.estopLine, partTime := 0, restartAccepted := false },
    cif := .reset record.baud,
    zt := .reset (loadedSlots zones),
    ct := .reset,
    fc := .reset record.motion.maxSpeed s.part.estopLine,
    wlc := Vector.replicate 4 .reset,
    lm := .reset,
    su := .reset unconfigured s.part.estopLine,
    cs := { record := record, storedFixed := zones, unconfigured := unconfigured, save := .idle, lastSave := none, flash := s.cs.flash },
    chan := .reset,
    pending := s.pending }

/-- A start (R212). -/
def start (s : State) : State :=
  match loadedImage s.cs.flash with
  | some i => startWith i.record i.zones false s
  | none => startWith .default [] true s

/-- The supply comes on: a start, or, with the reset line asserted, the part is held (R212; log 17). -/
def execPowerOn (s : State) : Outcome :=
  .next (if s.part.resetLine then { s with part := { s.part with supply := true } } else start s)

/-- The supply is lost (R210; log 17). -/
def execPowerLoss (s : State) : Outcome := .next { s with part := { s.part with supply := false } }

/-- The reset line is asserted: the part is held (R212). -/
def execResetAsserted (s : State) : Outcome := .next { s with part := { s.part with resetLine := true } }

/-- The reset line is released: a start, where the part is supplied (R212; log 17). -/
def execResetReleased (s : State) : Outcome :=
  .next (if s.part.resetLine && s.part.supply then start s else { s with part := { s.part with resetLine := false } })

/-- A frame is the OK response to a RESTART. -/
def TxFrame.restartOk (f : TxFrame) : Bool := !f.notice && decide (f.kind = 0xE3#8) && decide (f.body.head? = some 0)

/-- The response of the accepted RESTART has left the SAFETY port's buffer (R211). -/
def restartSent (s : State) : Bool :=
  s.part.running && s.part.restartAccepted && s.cif.safety.inProgress.isNone && !s.cif.safety.tx.any TxFrame.restartOk

/-- The last byte of the RESTART's response has been sent: a start (R211, R212). -/
def execRestartResponseSent (s : State) : Outcome := .next (if restartSent s then start s else s)

end Sys2Proof.Machine
end

