-- ==== Sys2Proof/Machine/Status.lean ====
section
/-! DEFINITION. The Status Unit: taking raises, clears and the airborne indication, the pattern's period, CONDITIONS READ and ACKNOWLEDGE
(R200 to R203). -/

namespace Sys2Proof.Machine

/-- SU takes the oldest message of a sender where it is a raise (R200). -/
def execConditionRaiseAtSu (sender : Block) (s : State) : Outcome :=
  takeSu sender (fun m => match m with | .raise n => some (raiseCondition n) | _ => none) s

/-- SU takes the oldest message of a sender where it is a clear (R200). -/
def execConditionClearAtSu (sender : Block) (s : State) : Outcome :=
  takeSu sender (fun m => match m with | .clear n => some (clearCondition n) | _ => none) s

/-- SU takes FC's oldest message where it is the airborne indication (R202). -/
def execAirborneIndication (s : State) : Outcome :=
  takeSu .fc (fun m => match m with | .airborne b => some (setAirborne b) | _ => none) s

/-- The end of the driven pattern's period, where it has one (R202). -/
def Su.boundary (u : Su) : Option PartTime := u.driven.period.map (fun ms => u.periodStart + BitVec.ofNat 32 ms)

/-- The driven pattern's period ends: the pattern wanted then is driven (R202). -/
def takeBoundary (due : PartTime) (s : State) : State := { s with su := { s.su with driven := s.su.wanted, periodStart := due } }

/-- A period boundary falls (R202). -/
def execPeriodBoundary (s : State) : Outcome :=
  match s.su.boundary with
  | some due => onExpiry (some due) (takeBoundary due) s
  | none => .next s

/-! ## CONDITIONS READ -/

/-- What CONDITIONS READ carries; the 43 conditions stand without a count (R203; log 45). -/
def conditionsBytes (s : State) : List Byte :=
  s.su.conds.toList.flatMap (fun c => flag c.live ++ flag c.latched) ++
  optional (fun v => u8 v.code) s.su.highest ++ u8 s.su.driven.code ++ u8 s.su.wanted.code ++ flag s.su.airborne ++
  u16 s.cif.pilot.badFrames ++ u16 s.cif.director.badFrames ++ u16 s.cif.safety.badFrames

/-- The three bad-frame counters are set to 0 (R203). -/
def clearBadFrames (s : State) : State :=
  { s with
    cif := { s.cif with
      pilot := { s.cif.pilot with badFrames := 0 }, director := { s.cif.director with badFrames := 0 },
      safety := { s.cif.safety with badFrames := 0 } } }

/-- CONDITIONS READ (R203). -/
def conditionsRead (p : Port) (clear : Byte) (s : State) : Answer :=
  match flagOf clear with
  | none => refuse .badField s
  | some c =>
    if c && decide (p ≠ .safety) then refuse .denied s
    else ⟨.ok, conditionsBytes s, if c then clearBadFrames s else s⟩

/-- CONDITIONS READ at SU with CIF (R203). -/
def execConditionsRead (p : Port) (s : State) : Outcome :=
  request p (fun r s =>
    match r with
    | .conditionsRead clear => some (conditionsRead p clear s)
    | _ => none) s

/-! ## ACKNOWLEDGE -/

/-- The conditions a number names: one, or all for FFh (R201). -/
def namedConditions (number : Byte) : Option (List (Fin 43)) :=
  if h : number.toNat < 43 then some [⟨number.toNat, h⟩] else if number = 0xFF#8 then some (handles 43) else none

/-- A condition whose live flag is clear loses its latched flag (R201). -/
def acknowledgeOne (u : Su) (n : Fin 43) : Su :=
  if u.conds[n].live then u else { u with conds := put u.conds n ⟨false, false⟩ }

/-- ACKNOWLEDGE (R201). -/
def acknowledge (number : Byte) (s : State) : Answer :=
  match namedConditions number with
  | none => refuse .badField s
  | some ns =>
    let latched := ns.filter (fun n => s.su.conds[n].latched)
    let kept := latched.filter (fun n => s.su.conds[n].live)
    ⟨.ok, u8 (latched.length - kept.length) ++ u8 kept.length, { s with su := ns.foldl acknowledgeOne s.su }⟩

/-- ACKNOWLEDGE at SU (R201). -/
def execAcknowledge (p : Port) (s : State) : Outcome :=
  request p (fun r s =>
    match r with
    | .acknowledge number => some (acknowledge number s)
    | _ => none) s

end Sys2Proof.Machine
end

