-- ==== Sys2Proof/Machine/Stopping.lean ====
section
/-! DEFINITION. The stop causes, the ESTOP line, STOP and RESUME (chapter 7). -/

namespace Sys2Proof.Machine

/-! ## Causes and the ESTOP line -/

/-- FC takes the oldest message of a sender where it is a raise of a stop cause (R144). -/
def execStopCauseRaise (sender : Block) (s : State) : Outcome :=
  takeFc sender (fun m => match m with | .raise c => some (raiseCause c) | _ => none) s

/-- FC takes the oldest message of a sender where it is a clear of a stop cause (R144). -/
def execStopCauseClear (sender : Block) (s : State) : Outcome :=
  takeFc sender (fun m => match m with | .clear c => some (clearCause c) | _ => none) s

/-- The line's level changes. -/
def setEstopLine (level : Bool) (s : State) : State := { s with part := { s.part with estopLine := level } }

/-- The ESTOP line is asserted: FC takes a raise and SU makes the condition live. A line that is asserted already sends no event; a part
that takes no event samples the level at its start (R147; log 17). FC's notices stand before SU's (log 39). -/
def execEstopAsserted (s : State) : Outcome :=
  .next
    (if s.part.running && !s.part.estopLine then raiseCondition condEstop (raiseCause .estop (setEstopLine true s))
     else setEstopLine true s)

/-- The ESTOP line is released: FC takes a clear and SU clears the live flag (R147; log 17). -/
def execEstopReleased (s : State) : Outcome :=
  .next
    (if s.part.running && s.part.estopLine then clearCondition condEstop (clearCause .estop (setEstopLine false s))
     else setEstopLine false s)

/-! ## STOP -/

/-- STOP (R148). -/
def stopRequest (s : State) : Answer :=
  let s' := raiseCause .stop s
  ⟨.ok, modeByte s' ++ causesBytes s'.fc.causes, s'⟩

/-- STOP at FC (R148). -/
def execStop (p : Port) (s : State) : Outcome :=
  request p (fun r s =>
    match r with
    | .stop => some (stopRequest s)
    | _ => none) s

/-! ## RESUME -/

/-- The four last accepted lengths, where FC holds one for every winch (R112, R149). -/
def acceptedLengths (s : State) : Option (Int × Int × Int × Int) :=
  match s.fc.lengths[0], s.fc.lengths[1], s.fc.lengths[2], s.fc.lengths[3] with
  | some a, some b, some c, some d => some (a, b, c, d)
  | _, _, _, _ => none

/-- LOCATE on the four lengths that FC holds (R150). -/
def locateNow (s : State) (l : Int × Int × Int × Int) : Located :=
  locate s.cs.record.geometry s.cs.record.following.followTol l.1 l.2.1 l.2.2.1 l.2.2.2

/-- The squared deviation of a LOCATE result, where one is computed (R150). -/
def deviation2 (s : State) (q : Vec3) : Option Nat := s.fc.p.map (fun p => p.dist2 q)

/-- A deviation in whole mm rounded down (R150). -/
def deviationMm (square : Nat) : Int := ((isqrt square / 1000 : Nat) : Int)

/-- The checks of RESUME (R149): a refusal with its content, or the located point. -/
def resumeCheck (s : State) : (Result × List Byte) ⊕ Vec3 :=
  if s.fc.mode ≠ .stopped then .inl (.mode, [])
  else if s.part.estopLine then .inl (.estop, [])
  else if s.fc.causes.any CauseEntry.live then .inl (.causeActive, causesBytes (s.fc.causes.filter CauseEntry.live))
  else
    match acceptedLengths s with
    | none => .inl (.link, [])
    | some l =>
      if !linksUp s then .inl (.link, [])
      else
        match locateNow s l with
        | .outOfRange test => .inl (.outOfRange, u8 test)
        | .inconsistent measured predicted => .inl (.inconsistent, i32 measured ++ i32 predicted)
        | .at q =>
          match deviation2 s q with
          | none => .inr q
          | some d =>
            if (1000 * s.cs.record.following.followTol) ^ 2 < (d : Int) then .inl (.deviation, i32 (deviationMm d) ++ pointTowardZero q)
            else .inr q

/-- A RESUME that is carried out: position, causes, ZT, mode (R151). -/
def carryOutResume (q : Vec3) (s : State) : State :=
  let s := clearOverflow
    { s with fc := { s.fc with p := some q, v := .zero, causes := [], launchTimer := none, settleTimer := none } }
  if atDock s.cs.record.geometry q && allDrives .braked s then enterParked s else enterLaunching s

/-- RESUME (R149 to R151). The set is in the response where entries refuse it; a response OK carries what R151 names, the set being empty
(R143; log 43). -/
def resumeRequest (s : State) : Answer :=
  match resumeCheck s with
  | .inl refusal => ⟨refusal.1, refusal.2, s⟩
  | .inr q =>
    let s' := reportQueue s.ct (carryOutResume q s)
    ⟨.ok, modeByte s' ++ pointTowardZero q ++ optional (fun d => i32 (deviationMm d)) (deviation2 s q), s'⟩

/-- RESUME at FC (R149 to R151). -/
def execResume (p : Port) (s : State) : Outcome :=
  request p (fun r s =>
    match r with
    | .resume => some (resumeRequest s)
    | _ => none) s

end Sys2Proof.Machine
end

