-- ==== Sys2Proof/Machine/ZoneClock.lean ====
section
/-! DEFINITION. The zone clock: carries, freeze, thaw and read, the advance and the retirement of zones (chapter 4). -/

namespace Sys2Proof.Machine

/-- One slot of a retirement: a zone whose remaining life has reached zero becomes FREE (R76, R80). -/
def ZtWork.retireOne (w : ZtWork) (h : ZoneHandle) : ZtWork :=
  match w.zt.zone h with
  | some z => if z.expiry = some w.zt.clock then w.change h z.cls .expire none else w
  | none => w

/-- The retirement of an advance, in slot order (R80). -/
def ZtWork.retirement (w : ZtWork) : ZtWork := (handles 48).foldl (fun w h => w.retireOne h) w

/-- An advance: the clock value rises by one, and what retires is handed on after the arming pass (R75, R80, R81). -/
def advance (s : State) : State :=
  let w := { s.zt with clock := s.zt.clock + 1 }.work.retirement
  if w.entries.isEmpty then { s with zt := w.zt } else carryOut w s

/-- A carry (R74, R75). -/
def carryFalls (s : State) : State :=
  let s := { s with zt := { s.zt with carry := s.zt.carry + 100 } }
  if s.zt.frozen then { s with zt := { s.zt with held := true } } else advance s

/-- The carry timer expires (R74, R75). -/
def execCarry (s : State) : Outcome := onExpiry (some s.zt.carry) carryFalls s

/-- What the clock requests carry: the clock value, the frozen flag, the held-carry flag (R77 to R79). -/
def clockBytes (t : Zt) : List Byte := word32 t.clock ++ flag t.frozen ++ flag t.held

/-- OK with the clock as it stands (R77 to R79). -/
def okWithClock (s : State) : Answer := ⟨.ok, clockBytes s.zt, s⟩

/-- CLOCK FREEZE at ZT (R77). -/
def execClockFreeze (p : Port) (s : State) : Outcome :=
  request p (fun r s =>
    match r with
    | .clockFreeze => some (okWithClock { s with zt := { s.zt with frozen := true } })
    | _ => none) s

/-- A thaw: a held carry advances the clock at once (R78). -/
def thaw (s : State) : State :=
  if !s.zt.frozen then s
  else if s.zt.held then advance { s with zt := { s.zt with frozen := false, held := false } }
  else { s with zt := { s.zt with frozen := false } }

/-- CLOCK THAW at ZT (R78). -/
def execClockThaw (p : Port) (s : State) : Outcome :=
  request p (fun r s =>
    match r with
    | .clockThaw => some (okWithClock (thaw s))
    | _ => none) s

/-- CLOCK READ at ZT (R79). -/
def execClockRead (p : Port) (s : State) : Outcome :=
  request p (fun r s =>
    match r with
    | .clockRead => some (okWithClock s)
    | _ => none) s

end Sys2Proof.Machine
end

