-- ==== Sys2Proof/Machine/Dispatch.lean ====
section
/-! DEFINITION. The meaning of each command: its effect on everything but the queue of waiting commands. -/

namespace Sys2Proof.Machine

def exec (i : Instr) (s : State) : Host.Outcome State Fault Refusal :=
  match i with
  | .zonePut p => Sys2Proof.Machine.execZonePut p s
  | .zoneShift p => Sys2Proof.Machine.execZoneShift p s
  | .zoneRenew p => Sys2Proof.Machine.execZoneRenew p s
  | .zoneSuspend p => Sys2Proof.Machine.execZoneSuspend p s
  | .zoneResume p => Sys2Proof.Machine.execZoneResume p s
  | .zoneDrop p => Sys2Proof.Machine.execZoneDrop p s
  | .zoneRead p => Sys2Proof.Machine.execZoneRead p s
  | .zoneList p => Sys2Proof.Machine.execZoneList p s
  | .groupSuspend p => Sys2Proof.Machine.execGroupSuspend p s
  | .groupResume p => Sys2Proof.Machine.execGroupResume p s
  | .clockFreeze p => Sys2Proof.Machine.execClockFreeze p s
  | .clockThaw p => Sys2Proof.Machine.execClockThaw p s
  | .clockRead p => Sys2Proof.Machine.execClockRead p s
  | .cueStore p => Sys2Proof.Machine.execCueStore p s
  | .cueDrop p => Sys2Proof.Machine.execCueDrop p s
  | .cueRead p => Sys2Proof.Machine.execCueRead p s
  | .cueList p => Sys2Proof.Machine.execCueList p s
  | .queueAdd p => Sys2Proof.Machine.execQueueAdd p s
  | .queueTake p => Sys2Proof.Machine.execQueueTake p s
  | .queueSkip p => Sys2Proof.Machine.execQueueSkip p s
  | .queueClear p => Sys2Proof.Machine.execQueueClear p s
  | .queueRead p => Sys2Proof.Machine.execQueueRead p s
  | .launch p => Sys2Proof.Machine.execLaunch p s
  | .jog p => Sys2Proof.Machine.execJog p s
  | .hold p => Sys2Proof.Machine.execHold p s
  | .returnDock p => Sys2Proof.Machine.execReturn p s
  | .stop p => Sys2Proof.Machine.execStop p s
  | .resume p => Sys2Proof.Machine.execResume p s
  | .flightRead p => Sys2Proof.Machine.execFlightRead p s
  | .winchRead p => Sys2Proof.Machine.execWinchRead p s
  | .driveQuery p => Sys2Proof.Machine.execDriveQuery p s
  | .counters p => Sys2Proof.Machine.execCounters p s
  | .conditionsRead p => Sys2Proof.Machine.execConditionsRead p s
  | .acknowledge p => Sys2Proof.Machine.execAcknowledge p s
  | .configRead p => Sys2Proof.Machine.execConfigRead p s
  | .configWrite p => Sys2Proof.Machine.execConfigWrite p s
  | .configSave p => Sys2Proof.Machine.execConfigSave p s
  | .restart p => Sys2Proof.Machine.execRestart p s
  | .requestArrival p bs => Sys2Proof.Machine.execRequestArrival p bs s
  | .gapTimerExpiry p => Sys2Proof.Machine.execGapTimerExpiry p s
  | .transmitRoomFreed p n => Sys2Proof.Machine.execTransmitRoomFreed p n s
  | .noticeHanded => Sys2Proof.Machine.execNoticeHanded s
  | .powerOn => Sys2Proof.Machine.execPowerOn s
  | .resetAsserted => Sys2Proof.Machine.execResetAsserted s
  | .resetReleased => Sys2Proof.Machine.execResetReleased s
  | .restartResponseSent => Sys2Proof.Machine.execRestartResponseSent s
  | .estopAsserted => Sys2Proof.Machine.execEstopAsserted s
  | .estopReleased => Sys2Proof.Machine.execEstopReleased s
  | .servoStep => Sys2Proof.Machine.execServoStep s
  | .carry => Sys2Proof.Machine.execCarry s
  | .dwellTimerExpiry => Sys2Proof.Machine.execDwellTimerExpiry s
  | .deadmanExpiry => Sys2Proof.Machine.execDeadmanExpiry s
  | .launchTimerExpiry => Sys2Proof.Machine.execLaunchTimerExpiry s
  | .settleTimerExpiry => Sys2Proof.Machine.execSettleTimerExpiry s
  | .slackTimerExpiry w => Sys2Proof.Machine.execSlackTimerExpiry w s
  | .followTimerExpiry w => Sys2Proof.Machine.execFollowTimerExpiry w s
  | .periodBoundary => Sys2Proof.Machine.execPeriodBoundary s
  | .saveEnd => Sys2Proof.Machine.execSaveEnd s
  | .stateFrame w bs => Sys2Proof.Machine.execStateFrame w bs s
  | .stateByteGap w => Sys2Proof.Machine.execStateByteGap w s
  | .windowEnd w => Sys2Proof.Machine.execWindowEnd w s
  | .queryTimeout w => Sys2Proof.Machine.execQueryTimeout w s
  | .positionReport => Sys2Proof.Machine.execPositionReport s
  | .changeReportFc => Sys2Proof.Machine.execChangeReportFc s
  | .changeReportCt => Sys2Proof.Machine.execChangeReportCt s
  | .zoneSummary => Sys2Proof.Machine.execZoneSummary s
  | .allowanceReport => Sys2Proof.Machine.execAllowanceReport s
  | .stopCauseRaise b => Sys2Proof.Machine.execStopCauseRaise b s
  | .stopCauseClear b => Sys2Proof.Machine.execStopCauseClear b s
  | .conditionRaiseAtSu b => Sys2Proof.Machine.execConditionRaiseAtSu b s
  | .conditionClearAtSu b => Sys2Proof.Machine.execConditionClearAtSu b s
  | .driveStatus => Sys2Proof.Machine.execDriveStatus s
  | .linkState => Sys2Proof.Machine.execLinkState s
  | .hotFlag => Sys2Proof.Machine.execHotFlag s
  | .highFlag => Sys2Proof.Machine.execHighFlag s
  | .warmFlag => Sys2Proof.Machine.execWarmFlag s
  | .airborneIndication => Sys2Proof.Machine.execAirborneIndication s
  | .badFrame p bs => Sys2Proof.Machine.execBadFrame p bs s
  | .powerLoss => Sys2Proof.Machine.execPowerLoss s

end Sys2Proof.Machine
end

