-- ==== Sys2Proof/Machine/Step.lean ====
section
/-! DEFINITION. One step: the command at the front of the queue, or a tick of part time where none waits. -/

namespace Sys2Proof.Machine

/-- A millisecond of part time passes while the part runs (00_scope 5; log 4). -/
def tick (s : State) : State :=
  if s.part.running then { s with part := { s.part with partTime := s.part.partTime + 1 } } else s

/-- The command at the front of the queue is executed on the state with the rest of the queue; on an empty queue part time ticks. -/
def step (s : State) : Host.Outcome State Fault Refusal :=
  match s.pending with
  | [] => .next (tick s)
  | c :: rest => exec c { s with pending := rest }

/-- The state with the command that a word spells in front of its queue; unchanged where it spells none, as no word does. -/
def State.withFetchWord (s : State) (nbits w : Nat) : State :=
  match decodeTableWord nbits w with
  | some c => { s with pending := c :: s.pending }
  | none => s

end Sys2Proof.Machine
end

