-- ==== Sys2Proof/Safety.lean ====
section
/-! DEFINITION. The properties that the part keeps from one step to the next, each an invariant over State, and the vocabulary of the
statements about single commands. -/

namespace Sys2Proof.Machine

/-! ## Vocabulary -/

/-- A property that every step keeps, whatever command is at the front of the queue. -/
def Kept (inv : State → Prop) : Prop := ∀ s s' : State, inv s → step s = .next s' → inv s'

/-- The port's request in progress is r, handed to its owner, and the owner may take it (R194, R195). -/
def Asked (s : State) (p : Port) (r : Request) : Prop := handedRequest p s = some r

/-- The command answers the port's request with a result and a content, and its effect leaves the state u. -/
def Answers (c : Instr) (s : State) (p : Port) (result : Result) (content : List Byte) (u : State) : Prop :=
  exec c s = .next (respond p result content u)

/-- The command refuses the port's request with a result code alone, and changes nothing else. -/
def Refuses (c : Instr) (s : State) (p : Port) (result : Result) : Prop := Answers c s p result [] s

/-- A port has no request in progress that an owner may take: the part is not running, a RESTART is outstanding, or none is handed. -/
def NotAsked (s : State) (p : Port) : Prop := handedRequest p s = none

/-- Nothing but the Zone Table and the messages handed on differs. -/
def OnlyZones (s u : State) : Prop := u = { s with zt := u.zt, chan := u.chan }

/-- Nothing but FC, the shot queue side of CT, the held targets of WLC and the messages handed on differs, and of WLC nothing but the held
targets: what an event of flight may change. -/
def OnlyFlight (s u : State) : Prop :=
  u = { s with ct := u.ct, fc := u.fc, wlc := u.wlc, chan := u.chan } ∧
  ∀ w : Winch, u.wlc[w] = { s.wlc[w] with heldLength := u.wlc[w].heldLength, heldCommand := u.wlc[w].heldCommand }

/-- The command that hands a request to its owner on a port (R195). -/
def Request.command (p : Port) : Request → Instr
  | .zonePut _ _ _ _ _ _ _ => .zonePut p
  | .zoneShift _ _ _ _ _ _ => .zoneShift p
  | .zoneRenew _ _ _ => .zoneRenew p
  | .zoneSuspend _ _ => .zoneSuspend p
  | .zoneResume _ _ => .zoneResume p
  | .zoneDrop _ _ => .zoneDrop p
  | .zoneRead _ _ => .zoneRead p
  | .zoneList _ _ => .zoneList p
  | .groupSuspend _ => .groupSuspend p
  | .groupResume _ => .groupResume p
  | .clockFreeze => .clockFreeze p
  | .clockThaw => .clockThaw p
  | .clockRead => .clockRead p
  | .cueStore _ _ _ _ _ _ => .cueStore p
  | .cueDrop _ _ => .cueDrop p
  | .cueRead _ _ => .cueRead p
  | .cueList _ => .cueList p
  | .queueAdd _ _ _ => .queueAdd p
  | .queueTake => .queueTake p
  | .queueSkip => .queueSkip p
  | .queueClear => .queueClear p
  | .queueRead => .queueRead p
  | .launch => .launch p
  | .jog _ => .jog p
  | .hold => .hold p
  | .returnDock => .returnDock p
  | .stop => .stop p
  | .resume => .resume p
  | .flightRead => .flightRead p
  | .winchRead _ => .winchRead p
  | .driveQuery _ _ _ => .driveQuery p
  | .counters _ _ => .counters p
  | .conditionsRead _ => .conditionsRead p
  | .acknowledge _ => .acknowledge p
  | .configRead _ _ => .configRead p
  | .configWrite _ _ => .configWrite p
  | .configSave => .configSave p
  | .restart => .restart p

/-- The handle and generation bytes of a request that names a zone (R19). -/
def Request.zoneName : Request → Option (Byte × Byte)
  | .zoneShift h g _ _ _ _ | .zoneRenew h g _ | .zoneSuspend h g | .zoneResume h g | .zoneDrop h g | .zoneRead h g => some (h, g)
  | _ => none

/-- The matrix column of a request that names a zone and needs a grant (R22, R31 to R38). -/
def Request.zoneOp : Request → Option ZoneOp
  | .zoneShift _ _ _ _ _ _ | .zoneRenew _ _ _ => some .put
  | .zoneSuspend _ _ | .zoneResume _ _ => some .suspend
  | .zoneDrop _ _ => some .drop
  | _ => none

/-- The handle and generation bytes of a request that names a cue before any other check (R88). -/
def Request.cueName : Request → Option (Byte × Byte)
  | .cueDrop h g | .cueRead h g => some (h, g)
  | _ => none

/-- A handle byte and a generation name the zone in a slot (R18, R19). -/
def NamesZone (s : State) (handle gen : Byte) (h : ZoneHandle) (z : Zone) : Prop :=
  handle.toNat = h.val ∧ s.zt.slots[h] = { generation := gen, zone := some z }

/-- A handle byte and a generation name the cue in a slot (R87, R88). -/
def NamesCue (s : State) (handle gen : Byte) (h : CueHandle) (c : Cue) : Prop :=
  handle.toNat = h.val ∧ s.ct.slots[h] = { generation := gen, cue := some c }

/-- The state after one zone slot and the pending queue are replaced as one reported change, the subject determined anew. -/
def afterChange (s : State) (h : ZoneHandle) (slot : ZoneSlot) (queue : List ZoneHandle) (cls : ZoneClass) (kind : ChangeKind) : State :=
  handReport
    [{ handle := h, generation := slot.generation, cls := cls, kind := kind, before := s.zt.stateOf h,
       after := slot.zone.map Zone.state }]
    { s with zt := ({ s.zt with slots := put s.zt.slots h slot, queue := queue }).setSubject s.cs.record.geometry }

/-- A zone slot as it is loaded at a start: generation 1 with a stored zone, 0 without (R18, R47). -/
def slotAtStart (zones : List StoredZone) (h : ZoneHandle) : ZoneSlot :=
  match zones[h.val]? with
  | some z =>
    { generation := 1,
      zone := some
        { state := .suspended, cls := .fixed, owner := .safety, box := z.box, guard := z.guard, hyst := z.hyst, cap := z.cap,
          group := z.group, expiry := none, awaiting := true, relation := .off, clearance := none } }
  | none => { generation := 0, zone := none }

/-- What a start from s leaves in u, block by block, where it loads a record and its zones (R47, R74, R110, R112, R175, R190, R205, R212). -/
structure AfterStart (record : Record) (zones : List StoredZone) (unconfigured : Bool) (s u : State) : Prop where
  part : u.part = { supply := true, resetLine := false, estopLine := s.part.estopLine, partTime := 0, restartAccepted := false }
  ports : ∀ p : Port, u.cif.port p =
    { rx := .hunt, gapTimer := none, queue := [], inProgress := none, tx := [], txSent := 0, overrun := false, badFrames := 0 }
  rate : u.cif.rate = record.baud
  zoneSlots : ∀ h : ZoneHandle, u.zt.slots[h] = slotAtStart zones h
  zoneQueue : u.zt.queue = [] ∧ u.zt.subject = none ∧ u.zt.overflow = false ∧ u.zt.report.p = none
  zoneClock : u.zt.clock = 0 ∧ u.zt.frozen = false ∧ u.zt.held = false ∧ u.zt.carry = 100
  cueSlots : ∀ h : CueHandle, u.ct.slots[h] = { generation := 0, cue := none }
  shotQueue : u.ct.queue = [] ∧ u.ct.halted = true ∧ u.ct.dwell = none ∧ u.ct.zones = [] ∧ u.ct.allowance = 0
  flight : u.fc.mode = .stopped ∧ u.fc.p = none ∧ u.fc.v = .zero ∧ u.fc.latch = false ∧ u.fc.maxSpeed = record.motion.maxSpeed ∧
    u.fc.servo = 5
  flightTimers : u.fc.jogDemand = .zero ∧ u.fc.deadman = none ∧ u.fc.launchTimer = none ∧ u.fc.settleTimer = none
  flightRecords : u.fc.run = none ∧ u.fc.evict = none ∧ u.fc.legGoal = none ∧ u.fc.zones = [] ∧ u.fc.nearCap = none ∧
    u.fc.subject = none ∧ u.fc.allowanceSent = 0
  flightCopies : u.fc.high = false ∧ u.fc.warm = false ∧ u.fc.hot = false ∧
    ∀ w : Winch, u.fc.driveStatus[w] = none ∧ u.fc.lengths[w] = none ∧ u.fc.links[w] = .down
  causes : u.fc.causes = ⟨.restart, false⟩ :: (if s.part.estopLine then [⟨.estop, true⟩] else [])
  links : ∀ w : Winch, u.wlc[w].heldLength = 0 ∧ u.wlc[w].heldCommand = .brake ∧ u.wlc[w].seq = 15 ∧
    u.wlc[w].exchangeOpen = false ∧ u.wlc[w].last = none ∧ u.wlc[w].windowClosed = 0 ∧ u.wlc[w].windowGood = 0 ∧
    u.wlc[w].badWindows = 0 ∧ u.wlc[w].state = .down ∧ u.wlc[w].status = none ∧ u.wlc[w].meas = none ∧ u.wlc[w].rejectedRun = 0 ∧
    u.wlc[w].driveFault = false ∧ u.wlc[w].query = none ∧ u.wlc[w].nextQueryId = 0 ∧ u.wlc[w].counters = ⟨0, 0, 0, 0, 0⟩ ∧
    u.wlc[w].rx = []
  loads : ∀ w : Winch, u.lm.winches[w] =
    { meas := none, overload := false, tensionHigh := false, slack := .clear, motorWarm := false, motorHot := false, follow := .clear }
  allowance : u.lm.high = false ∧ u.lm.warm = false ∧ u.lm.hot = false ∧ u.lm.aStar = 0 ∧ u.lm.a = 0
  conditions : ∀ n : Fin 43, u.su.conds[n] =
    if n = condConfigDefault then ⟨unconfigured, unconfigured⟩ else if n = condEstop then ⟨s.part.estopLine, s.part.estopLine⟩
    else ⟨false, false⟩
  warning : u.su.airborne = true ∧ u.su.driven = u.su.wanted ∧ u.su.periodStart = 0
  store : u.cs =
    { record := record, storedFixed := zones, unconfigured := unconfigured, save := .idle, lastSave := none, flash := s.cs.flash }
  messages : u.chan =
    { fcToZt := [], ztToFc := [], wlcToFc := [], lmToFc := [], ztToCt := [], fcToCt := [0], wlcToSu := [], lmToSu := [],
      ztToSu := [], fcToSu := [], csToSu := [], notices := [] }
  pending : u.pending = s.pending

/-- A console request frame's bytes (R192). -/
def requestFrame (kind tag : Byte) (body : List Byte) (crc : BitVec 16) : List LineByte :=
  ([0xA5#8, BitVec.ofNat 8 body.length, kind, tag] ++ body ++ u16 crc.toNat).map .byte

/-- The CRC-16 of a console frame (R158, R192). -/
def requestCrc (kind tag : Byte) (body : List Byte) : BitVec 16 := crc16 (BitVec.ofNat 8 body.length :: kind :: tag :: body)

/-- A response frame with the port's overrun flag in body byte 1 (R192, R197). -/
def responseFrame (kind tag : Byte) (result : Result) (overrun : Bool) (content : List Byte) : TxFrame :=
  { notice := false, kind := kind + 0x80#8, tag := tag, body := u8 result.code ++ flag overrun ++ content }

/-- The path check passes from P to a goal, against every zone of FC's copy with the A of the last step (R99). -/
def PathClear (s : State) (p goal : Vec3) : Prop := pathCheck s.cs.record.geometry s.fc.lastA s.fc.zones p goal = none

/-! ## The Zone Table -/

/-- The pending queue (R56): no handle stands in it twice, it holds exactly the PENDING zones, and at most 8. -/
def PendingQueueSound (s : State) : Prop :=
  s.zt.queue.Nodup ∧ s.zt.queue.length ≤ 8 ∧ ∀ h : ZoneHandle, h ∈ s.zt.queue ↔ s.zt.stateOf h = some .pending

/-- At most 16 zones of class FIXED are not FREE (R20). -/
def FixedCountBounded (s : State) : Prop := s.zt.fixedCount ≤ 16

/-- A zone in force holds the clearance of its box to the last reported envelope, absent while the position is invalid, and a relation; a
zone that is not in force holds neither (R16, R50, R54). -/
def ClearancesOfTheReport (s : State) : Prop :=
  ∀ (h : ZoneHandle) (z : Zone), s.zt.zone h = some z →
    (z.state ≠ .suspended → z.clearance = s.zt.clearanceTo s.cs.record.geometry z.box ∧ z.relation ≠ .off) ∧
    (z.state = .suspended → z.clearance = none ∧ z.relation = .off)

/-- While the position is valid an ARMED zone has a clearance of at least STANDOFF, and a PENDING zone one below it (R27, R51, R52). -/
def ArmedExactlyWhenClear (s : State) : Prop :=
  ∀ (h : ZoneHandle) (z : Zone) (c : Int), s.zt.zone h = some z → z.clearance = some c →
    (z.state = .armed → s.cs.record.geometry.standoff ≤ c) ∧ (z.state = .pending → c < s.cs.record.geometry.standoff)

/-- The zone table as its requests and reports leave it. -/
def ZoneTableSound (s : State) : Prop := PendingQueueSound s ∧ ClearancesOfTheReport s ∧ ArmedExactlyWhenClear s

/-- The eviction subject is the head of the pending queue while the position is valid and the head's clearance is below STANDOFF, and
there is none otherwise (R60). -/
def SubjectIsTheBlockedHead (s : State) : Prop :=
  ∀ h : ZoneHandle, s.zt.subject = some h ↔
    s.zt.queue.head? = some h ∧ s.zt.report.p.isSome = true ∧
    ∃ (z : Zone) (c : Int), s.zt.zone h = some z ∧ z.clearance = some c ∧ c < s.cs.record.geometry.standoff

/-- The class, expiry, group and awaiting-position flag of a zone fit together (R16, R20, R26): a FIXED zone has no expiry, a zone that
awaits position is a SUSPENDED FIXED zone, a group is 0..7. -/
def ZoneFieldsFit (s : State) : Prop :=
  ∀ (h : ZoneHandle) (z : Zone), s.zt.zone h = some z →
    (z.cls = .fixed → z.expiry = none) ∧ (z.awaiting = true → z.state = .suspended ∧ z.cls = .fixed) ∧ z.group ≤ 7

/-! ## The Cue Table and the shot queue -/

/-- The head of the shot queue has a status. -/
def headIs (status : EntryStatus) (t : Ct) : Bool :=
  match t.queue with
  | e :: _ => decide (e.status = status)
  | [] => false

/-- The shot queue (R96, R97): at most 6 entries, all WAITING but the head; each names a cue that its slot still holds; the head is RUNNING
exactly in CUE; a head that is BLOCKED, CUT or ABORTED has halted the queue. -/
def ShotQueueSound (s : State) : Prop :=
  s.ct.queue.length ≤ 6 ∧
  (∀ e ∈ s.ct.queue.tail, e.status = .waiting) ∧
  (∀ e ∈ s.ct.queue, (s.ct.cue e.handle).isSome = true ∧ s.ct.slots[e.handle].generation = e.generation) ∧
  (headIs .running s.ct = true ↔ s.fc.mode = .cue) ∧
  (headIs .blocked s.ct = true ∨ headIs .cut s.ct = true ∨ headIs .aborted s.ct = true → s.ct.halted = true)

/-! ## Flight -/

/-- The mode is STOPPED exactly while the stop-cause set is not empty (R143, R144, R151). -/
def StoppedExactlyWithCauses (s : State) : Prop := s.fc.mode = .stopped ↔ s.fc.causes ≠ []

/-- The set of stop causes holds each cause and winch once, and live entries of the line and monitor causes alone (R143). -/
def CauseSetSound (s : State) : Prop :=
  (s.fc.causes.map CauseEntry.cause).Nodup ∧ ∀ e ∈ s.fc.causes, e.live = true → e.cause.enteredLive = true

/-- What FC holds for a mode it holds in that mode alone (R65, R112, R126, R129, R130, R136, R139): the run record in CUE, the eviction
record in EVICT, the leg goal on a leg, the jog demand in JOG with its deadman timer running exactly while it is not zero, the launch
and settle timers in LAUNCHING and SETTLE, or in STOPPED an expiry of theirs that had come and is not yet taken. -/
def ModeRecordsSound (s : State) : Prop :=
  (s.fc.run.isSome = true ↔ s.fc.mode = .cue) ∧
  (s.fc.evict.isSome = true ↔ s.fc.mode = .evict) ∧
  (s.fc.legGoal.isSome = true ↔ s.fc.mode.isLeg = true) ∧
  (s.fc.deadman.isSome = true ↔ s.fc.jogDemand ≠ .zero) ∧
  (s.fc.mode ≠ .jog → s.fc.jogDemand = .zero) ∧
  (s.fc.launchTimer.isSome = true → s.fc.mode = .launching ∨ s.fc.mode = .stopped) ∧
  (s.fc.settleTimer.isSome = true → s.fc.mode = .ret .settle ∨ s.fc.mode = .stopped)

/-- The modes in which V is zero (R111). -/
def Mode.still : Mode → Bool
  | .parked | .launching | .ret .settle | .stopped => true
  | .hold | .jog | .cue | .evict | .ret .rise | .ret .traverse | .ret .descend => false

/-- V is zero in PARKED, LAUNCHING, SETTLE and STOPPED (R111). -/
def StillModesHaveZeroVelocity (s : State) : Prop := s.fc.mode.still = true → s.fc.v = .zero

/-! ## Winch links and loads -/

/-- A link's bad-window count goes with its state (R164). -/
def linkStateFits (l : Link) : Prop :=
  match l.state with
  | .down | .up => l.badWindows = 0
  | .degraded => l.badWindows = 1 ∨ l.badWindows = 2
  | .lost => l.badWindows = 3

/-- The counts of a link stay in their ranges (R163, R164, R166, R171). -/
def LinksWithinBounds (s : State) : Prop :=
  ∀ w : Winch,
    linkStateFits s.wlc[w] ∧ s.wlc[w].windowClosed ≤ 20 ∧ s.wlc[w].windowGood ≤ s.wlc[w].windowClosed ∧ s.wlc[w].rejectedRun ≤ 3 ∧
    (∀ q, s.wlc[w].query = some q → q.carried ≤ 40) ∧
    s.wlc[w].counters.good ≤ 65535 ∧ s.wlc[w].counters.badCheck ≤ 65535 ∧ s.wlc[w].counters.missed ≤ 65535 ∧
    s.wlc[w].counters.staleSeq ≤ 65535 ∧ s.wlc[w].counters.degraded ≤ 65535

/-- A link whose exchange is open has sent the TARGET that it waits for, with its sequence number (R155, R156). -/
def OpenExchangesAwaitTheLastTarget (s : State) : Prop :=
  ∀ w : Winch, s.wlc[w].exchangeOpen = true → ∃ t, s.wlc[w].last = some t ∧ t.seq = s.wlc[w].seq

/-- The three load flags follow the comparators (R183). -/
def LoadFlagsFollow (s : State) : Prop :=
  (s.lm.high = true ↔ ∃ w : Winch, s.lm.winches[w].tensionHigh = true) ∧
  (s.lm.warm = true ↔ ∃ w : Winch, s.lm.winches[w].motorWarm = true) ∧
  (s.lm.hot = true ↔ ∃ w : Winch, s.lm.winches[w].motorHot = true)

/-- The allowance target and the allowance lie in 0..2,000,000 µm (R184, R185). -/
def AllowanceInRange (s : State) : Prop := 0 ≤ s.lm.aStar ∧ s.lm.aStar ≤ 2000000 ∧ 0 ≤ s.lm.a ∧ s.lm.a ≤ 2000000

/-! ## Conditions -/

/-- A live condition is latched (R200). -/
def LatchedCoversLive (s : State) : Prop := ∀ n : Fin 43, s.su.conds[n].live = true → s.su.conds[n].latched = true

/-- STEADY is driven exactly while it is wanted, and OFF only while it is wanted (R202). -/
def SteadyAtOnce (s : State) : Prop :=
  (s.su.driven = .steady ↔ s.su.wanted = .steady) ∧ (s.su.driven = .off → s.su.wanted = .off)

/-! ## Configuration -/

/-- The working record holds values in their ranges, with the cross-checks of R187 (R206, R208). -/
def RecordInRange (s : State) : Prop :=
  motionInRange s.cs.record.motion = true ∧ followingInRange s.cs.record.following = true ∧
  (∀ w : Winch, winchInRange s.cs.record.winch[w] = true ∧ winchConsistent s.cs.record.winch[w] = true) ∧
  sagInRange s.cs.record.sag = true

/-- The geometry fields are consistent with each other, with every zone's box and with every cue's target (R15). -/
def GeometrySound (s : State) : Prop := geometryConsistent s.cs.record.geometry (zoneBoxes s) (cueTargets s) = true

/-! ## Console ports -/

/-- A port's buffers and counters stay in their sizes (R193, R194, R198). -/
def PortsWithinBounds (s : State) : Prop :=
  ∀ p : Port, (s.cif.port p).queue.length ≤ 4 ∧ (s.cif.port p).used ≤ 512 ∧ (s.cif.port p).badFrames ≤ 65535

/-- A port's receiver is in HUNT exactly while its gap timer is stopped, and the body it has taken is not longer than its length byte, at
most 240, says (R193). -/
def receiverFits (q : PortState) : Prop :=
  (q.rx = .hunt ↔ q.gapTimer = none) ∧
  match q.rx with
  | .hunt | .length => True
  | .header n _ => n.toNat ≤ 240
  | .body n _ _ taken => n.toNat ≤ 240 ∧ taken.length < n.toNat
  | .check n _ _ taken _ => n.toNat ≤ 240 ∧ taken.length = n.toNat

/-- Every port's receiver is sound (R193). -/
def ReceiversSound (s : State) : Prop := ∀ p : Port, receiverFits (s.cif.port p)

/-! ## Vocabulary of the servo step -/

/-- The goal of the mode: the run's target, the eviction's target or the leg goal (R116). -/
def GoalIs (f : Fc) (goal : Vec3) : Prop :=
  (f.mode = .cue ∧ ∃ r, f.run = some r ∧ goal = pointUm r.target) ∨
  (f.mode = .evict ∧ ∃ e, f.evict = some e ∧ goal = e.target) ∨
  (f.mode.isLeg = true ∧ f.legGoal = some goal)

/-- The clipped D where it is a whole vector: zero in a mode without a goal and with P at the goal, the jog demand within the cap (R116,
R117). -/
def DemandIs (f : Fc) (cap : Int) (p d : Vec3) : Prop :=
  (f.mode ∈ [.parked, .launching, .hold, .ret .settle, .stopped] ∧ d = .zero) ∨
  (GoalIs f p ∧ d = .zero) ∨
  (f.mode = .jog ∧ d = f.jogDemand.scale 1000 ∧ (d.norm2 : Int) ≤ (1000 * cap) ^ 2)

/-- The rate limit toward d meets it: the difference is at most ACCEL × 5 ms where |d| is above |v|, DECEL × 5 ms otherwise (R119). -/
def WithinRateLimit (c : MotionCfg) (v d : Vec3) : Prop :=
  ((d.sub v).norm2 : Int) ≤ (5 * (if v.norm2 < d.norm2 then c.accel else c.decel)) ^ 2

/-- The speed cap is the least of its terms, reported with the first term in R142's order that has it (R117, R142). -/
def CapIsLeastTerm (c : MotionCfg) (f : Fc) (cap : Int × CapTerm) : Prop :=
  let modeSpeed : Option Int :=
    match f.mode with
    | .cue => f.run.map RunRecord.cruise
    | .evict => some c.evictSpeed
    | .ret .settle => none
    | .ret _ => some c.returnSpeed
    | _ => none
  let terms : List (Int × CapTerm) :=
    [(c.maxSpeed, .maxSpeed)] ++ (modeSpeed.map (fun v => (v, CapTerm.modeSpeed))).toList ++
    (f.nearCap.map (fun v => (v, CapTerm.nearCap))).toList ++ (if f.high = true then [(c.reducedHigh, .reducedHigh)] else []) ++
    (if f.warm = true then [(c.reducedWarm, .reducedWarm)] else [])
  (∀ t ∈ terms, cap.1 ≤ t.1) ∧ terms.find? (fun t => decide (t.1 = cap.1)) = some cap

/-- Stage 4 with no zone in FC's copy (R119): V becomes D within the rate limit; along +x, from a D or toward a goal that lies farther, it
changes by the limit itself. -/
def RateLimitHolds (c : MotionCfg) (f : Fc) (m : Motion) (p : Vec3) : Prop :=
  (∀ d, DemandIs f m.cap.1 p d →
    (WithinRateLimit c f.v d → m.v = d) ∧
    (∀ x y : Int, d = ⟨x, 0, 0⟩ → f.v = ⟨y, 0, 0⟩ → 0 ≤ x → 0 ≤ y → y ≤ 10000000 →
      (y + 5 * c.accel < x → m.v = ⟨y + 5 * c.accel, 0, 0⟩) ∧
      (x < y - 5 * c.decel → m.v = ⟨y - 5 * c.decel, 0, 0⟩))) ∧
  (∀ n y : Int, GoalIs f ⟨p.x + n, p.y, p.z⟩ → 0 < n → n ≤ 1000000000 → f.v = ⟨y, 0, 0⟩ → 0 ≤ y → y + 5 * c.accel ≤ 1000 * m.cap.1 →
    (y + 5 * c.accel) ^ 2 ≤ 2000 * c.decel * n → m.v = ⟨y + 5 * c.accel, 0, 0⟩)

/-- Stage 5 with one zone in FC's copy that lies along the x axis, k µm beyond STANDOFF, where stage 4 leaves the whole D (R120; the margin
is that of the exact gap: log 9): V's x component toward the zone is cut to the approach limit, the lesser of √(2 × DECEL × k) and
k ÷ 5 ms, and nothing else of V changes. -/
def ApproachLimitHolds (g : GeometryCfg) (c : MotionCfg) (f : Fc) (a : Int) (m : Motion) (p : Vec3) : Prop :=
  ∀ (z : ForceZone) (d : Vec3) (n : Int), f.zones = [z] → DemandIs f m.cap.1 p d → WithinRateLimit c f.v d →
    closingVector (envelope g p a) (boxUm z.box) = ⟨n, 0, 0⟩ → n ≠ 0 → n.natAbs ≤ 1000000000 → d.x.natAbs ≤ 10000000 → m.refused = false →
    let k := max 0 ((gaps (envelope g p a) (boxUm z.box)).x - 1000 * g.standoff)
    (d.x * n ≤ 0 → m.v = d) ∧
    (0 < d.x * n → d.x.natAbs ≤ 200 * k → d.x ^ 2 ≤ 2000 * c.decel * k → m.v = d) ∧
    (0 < d.x * n → 200 * k < d.x.natAbs → 20 * k ≤ c.decel → m.v = ⟨200 * k * n.sign, d.y, d.z⟩) ∧
    (0 < d.x * n → 2000 * c.decel * k < d.x ^ 2 → c.decel < 20 * k →
      ∃ r : Int, m.v = ⟨r * n.sign, d.y, d.z⟩ ∧ 0 < r ∧ (r - 1) ^ 2 ≤ 2000 * c.decel * k ∧ 2000 * c.decel * k ≤ (r + 1) ^ 2)

/-- Stages 2 to 6 leave m (R116 to R121). -/
def MotionFollowsStages (s : State) (m : Motion) : Prop :=
  let c := s.cs.record.motion
  CapIsLeastTerm c s.fc m.cap ∧
  (s.fc.p = none → m.p = none ∧ m.v = .zero ∧ m.refused = false) ∧
  ∀ p, s.fc.p = some p →
    (m.refused = true → m.p = some p ∧ m.v = .zero) ∧
    (s.fc.zones = [] → m.refused = false) ∧
    (m.refused = false →
      ∃ d : Vec3, m.p = some (p.add d) ∧ (200 * d.x - m.v.x).natAbs ≤ 100 ∧ (200 * d.y - m.v.y).natAbs ≤ 100 ∧
        (200 * d.z - m.v.z).natAbs ≤ 100) ∧
    (RecordInRange s → 0 ≤ m.cap.1 → s.fc.zones = [] → RateLimitHolds c s.fc m p) ∧
    (RecordInRange s → 0 ≤ m.cap.1 → 0 ≤ s.cs.record.geometry.standoff →
      ApproachLimitHolds s.cs.record.geometry c s.fc s.lm.a m p)

/-- The queue's start test does not start a run: there is no head, or it is CALL, or the queue is halted, or the dwell timer runs (R101). -/
def NoStart (queue : List QueueEntry) (halted : Bool) (dwell : Option PartTime) : Prop :=
  ∀ e rest, queue = e :: rest → halted = true ∨ e.kind = .call ∨ dwell ≠ none

/-- Stage 8 of a servo step whose stages 2 to 6 left m (R66, R102, R114, R122, R130, R131, R137, R139; a refused step: log 15). The clauses
that end in HOLD are those in which FC's own tests there pass nothing on. -/
def StageEightFollows (s : State) (m : Motion) (u : State) : Prop :=
  let g := s.cs.record.geometry
  let s1 : State := { s with fc := { s.fc with p := m.p, lastA := s.lm.a } }
  let now := (atExpiry s.fc.servo s).part.partTime
  let quiet := s.fc.subject = none ∧ s.fc.latch = false ∧ s.fc.hot = false
  let same := u.fc.mode = s.fc.mode ∧ u.fc.run = s.fc.run ∧ u.fc.evict = s.fc.evict ∧ u.fc.legGoal = s.fc.legGoal ∧ u.ct = s.ct
  let blocked := u.fc.mode.isLeg = false ∧ u.fc.legGoal = none ∧ u.fc.returnBlocked = true
  (m.p = none → same) ∧
  (m.refused = true →
    (s.fc.mode ≠ .evict → s.fc.mode.isLeg = false → same) ∧
    (s.fc.mode = .evict → u.fc.mode ≠ .evict ∧ u.fc.evict = none ∧ u.fc.evictBlocked = true) ∧
    (s.fc.mode.isLeg = true → blocked)) ∧
  (∀ q, m.refused = false → m.p = some q →
    let reached (goal : Vec3) (mm : Int) := (q.dist2 goal : Int) ≤ (1000 * mm) ^ 2 ∧ m.v.norm2 < 50000 ^ 2
    (s.fc.mode ∈ [.parked, .launching, .hold, .ret .settle, .stopped] → same) ∧
    (s.fc.mode = .jog → ¬ (s.fc.jogDemand = .zero ∧ m.v = .zero) → same) ∧
    (s.fc.mode = .jog → s.fc.jogDemand = .zero → m.v = .zero → quiet → NoStart s.ct.queue s.ct.halted s.ct.dwell →
      u.fc.mode = .hold ∧ u.ct = s.ct) ∧
    (∀ r, s.fc.mode = .cue → s.fc.run = some r →
      (¬ reached (pointUm r.target) r.tolerance → same) ∧
      (∀ c, reached (pointUm r.target) r.tolerance → s.ct.cue r.handle = some c → quiet →
        let dwell := if c.dwell ≤ 0 then none else some (now + BitVec.ofNat 32 c.dwell.toNat)
        NoStart s.ct.queue.tail s.ct.halted dwell →
        u.fc.mode = .hold ∧ u.fc.run = none ∧ u.ct = { s.ct with queue := s.ct.queue.tail, dwell := dwell })) ∧
    (∀ e, s.fc.mode = .evict → s.fc.evict = some e →
      let due := reached e.target 10 ∧ ∃ z, subjectZone s.fc.zones e.subject = some z ∧ z.state = .pending
      (¬ due → same) ∧
      (∀ e', due → chooseExit s1 = some (some e') → u.fc.mode = .evict ∧ u.fc.evict = some e' ∧ u.ct = s.ct) ∧
      (due → (∀ e', chooseExit s1 ≠ some (some e')) → u.fc.mode ≠ .evict ∧ u.fc.evict = none ∧ u.fc.evictBlocked = true)) ∧
    (∀ leg goal, s.fc.mode = .ret leg → leg ≠ .settle → s.fc.legGoal = some goal →
      let begins (next : Leg) (goal' : Vec3) :=
        (PathClear s1 q goal' → u.fc.mode = .ret next ∧ u.fc.legGoal = some goal' ∧ u.ct = s.ct) ∧ (¬ PathClear s1 q goal' → blocked)
      (¬ reached goal 10 → same) ∧
      (leg = .rise → reached goal 10 → begins .traverse ⟨1000 * g.dock.x, 1000 * g.dock.y, q.z⟩) ∧
      (leg = .traverse → reached goal 10 → begins .descend (pointUm g.dock)) ∧
      (leg = .descend → reached goal 10 →
        u.fc.v = .zero ∧ u.fc.legGoal = none ∧ u.ct = s.ct ∧ (∀ w : Winch, u.wlc[w].heldCommand = .brake) ∧
        ((∃ w : Winch, s.fc.driveStatus[w] ≠ some .braked) → u.fc.mode = .ret .settle ∧ u.fc.settleTimer = some (now + 500)) ∧
        ((∀ w : Winch, s.fc.driveStatus[w] = some .braked) →
          u.fc.mode = .parked ∧ u.fc.settleTimer = none ∧ u.fc.latch = false ∧ u.fc.returnBlocked = false ∧ u.fc.pinned = false))))

/-! ## Vocabulary of the winch links and loads -/

/-- A whole STATE frame of the nine bytes of completion and echo, drive status, length, tension and temperatures, with an answer part of
an id and status byte and up to 8 data bytes, and the CRC of them all (R158, R159). -/
def stateBytes (head : List Byte) (answer : Option (Byte × List Byte)) : List Byte :=
  let checked := head ++ (match answer with | none => [] | some (a, data) => a :: BitVec.ofNat 8 data.length :: data)
  0x3C#8 :: (checked ++ u16 (crc16 checked).toNat)

/-- SLACK after a set or a write (R179). -/
def slackAfter (c : WinchCfg) (now : PartTime) (old : TimedComparator) (m : LoadSet) : TimedComparator :=
  let low := m.targetCommand = .track ∧ m.tension < c.slackLim
  match old with
  | .clear => if low then .timing (now + BitVec.ofNat 32 c.slackTime.toNat) else .clear
  | .timing due => if low then .timing due else .clear
  | .live => if c.slackLim + c.tensHyst ≤ m.tension then .clear else .live

/-- FOLLOW after a set or a write (R181). -/
def followAfter (f : FollowingCfg) (now : PartTime) (old : TimedComparator) (m : LoadSet) : TimedComparator :=
  let out := m.targetCommand = .track ∧ f.followTol < ((m.length - m.targetLength).natAbs : Int)
  match old with
  | .clear => if out then .timing (now + BitVec.ofNat 32 f.followTime.toNat) else .clear
  | .timing due => if out then .timing due else .clear
  | .live => if out then .live else .clear

/-- The tension and temperature comparators of a winch after a set or a write (R178 to R180). -/
def comparatorsAfter (c : WinchCfg) (now : PartTime) (old : LmWinch) (m : LoadSet) : LmWinch :=
  let temperature : TempSource → Int := fun src => match src with | .winding => m.winding | .heatsink => m.heatsink
  { old with
    meas := some m,
    overload := comparator old.overload c.overLim c.tensHyst m.tension,
    tensionHigh := comparator old.tensionHigh c.highLim c.tensHyst m.tension,
    slack := slackAfter c now old.slack m,
    motorWarm := comparator old.motorWarm c.warmLim c.tempHyst (temperature c.warmSrc),
    motorHot := comparator old.motorHot c.hotLim c.tempHyst (temperature c.hotSrc) }

/-- What is handed where a flag changes: the one for set, or the one for clear. -/
def atChange {α : Type} (old new : Bool) (set clear : α) : List α := if old = new then [] else [if new then set else clear]

/-- What is handed where a timed comparator that was live is clear. -/
def atRelease {α : Type} (old new : TimedComparator) (clear : α) : List α := if old = .live ∧ new ≠ .live then [clear] else []

/-- What LM hands SU of a winch's comparators that a set or a write has moved (R182). -/
def loadsToSu (w : Winch) (old new : LmWinch) : List SuMsg :=
  atChange old.overload new.overload (.raise (condOverload w)) (.clear (condOverload w)) ++
  atChange old.tensionHigh new.tensionHigh (.raise (condTensionHigh w)) (.clear (condTensionHigh w)) ++
  atRelease old.slack new.slack (.clear (condSlack w)) ++
  atChange old.motorWarm new.motorWarm (.raise (condMotorWarm w)) (.clear (condMotorWarm w)) ++
  atChange old.motorHot new.motorHot (.raise (condMotorHot w)) (.clear (condMotorHot w)) ++
  atRelease old.follow new.follow (.clear (condFollow w))

/-- What LM hands FC of a winch's causes and of the three flags that a set or a write has moved (R182, R183). -/
def loadsToFc (w : Winch) (before after : Lm) : List FcMsg :=
  let old := before.winches[w]
  let new := after.winches[w]
  atChange old.overload new.overload (.raise (.overload w)) (.clear (.overload w)) ++
  atChange before.high after.high (.high true) (.high false) ++
  atRelease old.slack new.slack (.clear (.slack w)) ++
  atChange before.warm after.warm (.warm true) (.warm false) ++
  atChange before.hot after.hot (.hot true) (.hot false) ++
  atRelease old.follow new.follow (.clear (.follow w))

end Sys2Proof.Machine
end

