-- ==== Sys2Proof/Certificates/Slice0/Obligations.lean ====
section
/-! DEFINITION. The statements for the provers. -/

open Sys2Proof Sys2Proof.Machine

/-- A step takes the command at the front of the queue -/
def Obligations.StepTakesTheFrontCommand : Prop :=
  ∀ (c : Instr) (rest : List Instr) (s : State), s.pending = c :: rest → step s = exec c { s with pending := rest }

/-- A step on an empty queue lets one millisecond pass while the part runs (the model's choice, log 4), and no word spells a command -/
def Obligations.EmptyQueueTicksAndNoWordSpells : Prop :=
  (∀ s : State, s.pending = [] →
    (s.part.supply = true ∧ s.part.resetLine = false →
      step s = .next { s with part := { s.part with partTime := s.part.partTime + 1 } }) ∧
    (s.part.supply = false ∨ s.part.resetLine = true → step s = .next s)) ∧
  (∀ (nbits w : Nat) (s : State), decodeTableWord nbits w = none ∧ s.withFetchWord nbits w = s)

/-- Every command answers a next state and leaves the queue of waiting commands alone -/
def Obligations.EveryCommandAnswersNext : Prop :=
  ∀ (c : Instr) (s : State), ∃ u, exec c s = .next u ∧ u.pending = s.pending

/-- A part that is held in reset or not supplied takes no event but the levels of its supply, its reset line and its ESTOP line -/
def Obligations.HeldPartTakesNoEvent : Prop :=
  ∀ s : State,
    (∀ c : Instr, s.part.resetLine = true ∨ s.part.supply = false →
      c ∉ [.powerOn, .powerLoss, .resetAsserted, .resetReleased, .estopAsserted, .estopReleased] → exec c s = .next s) ∧
    exec .resetAsserted s = .next { s with part := { s.part with resetLine := true } } ∧
    exec .powerLoss s = .next { s with part := { s.part with supply := false } } ∧
    (s.part.resetLine = true → exec .powerOn s = .next { s with part := { s.part with supply := true } }) ∧
    (s.part.supply = false → exec .resetReleased s = .next { s with part := { s.part with resetLine := false } }) ∧
    (s.part.resetLine = true ∨ s.part.supply = false →
      exec .estopAsserted s = .next { s with part := { s.part with estopLine := true } } ∧
      exec .estopReleased s = .next { s with part := { s.part with estopLine := false } })

/-- Each cause of a start leaves every block at its values after start, from the stored image or from the defaults -/
def Obligations.StartLoadsTheStoredImageOrTheDefaults : Prop :=
  (∀ (c : Instr) (s : State),
    (c = .powerOn ∧ s.part.resetLine = false) ∨
    (c = .resetReleased ∧ s.part.resetLine = true ∧ s.part.supply = true) ∨
    (c = .restartResponseSent ∧ s.part.supply = true ∧ s.part.resetLine = false ∧ s.part.restartAccepted = true ∧
      s.cif.safety.inProgress = none ∧
      ∀ f ∈ s.cif.safety.tx, ¬ (f.notice = false ∧ f.kind = 0xE3#8 ∧ f.body.head? = some 0#8)) →
    ∃ u, exec c s = .next u ∧
      (∀ i, s.cs.flash = .holds i → imagePasses i = true → AfterStart i.record i.zones false s u) ∧
      ((∀ i, s.cs.flash = .holds i → imagePasses i = false) → AfterStart .default [] true s u)) ∧
  exec .powerOn State.reset = .next State.reset

/-- RESTART is refused while saving and in flight, and while its acceptance stands no owner takes a request -/
def Obligations.RestartIsCheckedAndHoldsRequests : Prop :=
  (∀ (p : Port) (s : State), Asked s p .restart →
    (s.cs.save ≠ .idle → Refuses (.restart p) s p .saving) ∧
    (s.cs.save = .idle → s.fc.mode ≠ .parked → s.fc.mode ≠ .stopped → Refuses (.restart p) s p .mode) ∧
    (s.cs.save = .idle → s.fc.mode = .parked ∨ s.fc.mode = .stopped →
      Answers (.restart p) s p .ok [] { s with part := { s.part with restartAccepted := true } })) ∧
  (∀ (r : Request) (p : Port) (s : State), s.part.restartAccepted = true → exec (r.command p) s = .next s) ∧
  (∀ (p : Port) (q : PortState), (q.takeNext p true) = q)

/-- A command whose event has not come about changes nothing (log 1) -/
def Obligations.CommandsNotEnabledChangeNothing : Prop :=
  (∀ (r : Request) (p : Port) (s : State), NotAsked s p → exec (r.command p) s = .next s) ∧
  (∀ (r r' : Request) (p : Port) (s : State), Asked s p r' → r'.command p ≠ r.command p → exec (r.command p) s = .next s) ∧
  (∀ (p : Port) (s : State), (s.cif.port p).gapTimer = none → exec (.gapTimerExpiry p) s = .next s) ∧
  (∀ s : State, s.ct.dwell = none → exec .dwellTimerExpiry s = .next s) ∧
  (∀ s : State, s.fc.deadman = none → exec .deadmanExpiry s = .next s) ∧
  (∀ s : State, s.fc.launchTimer = none → exec .launchTimerExpiry s = .next s) ∧
  (∀ s : State, s.fc.settleTimer = none → exec .settleTimerExpiry s = .next s) ∧
  (∀ (w : Winch) (s : State), (∀ d, s.lm.winches[w].slack ≠ .timing d) → exec (.slackTimerExpiry w) s = .next s) ∧
  (∀ (w : Winch) (s : State), (∀ d, s.lm.winches[w].follow ≠ .timing d) → exec (.followTimerExpiry w) s = .next s) ∧
  (∀ s : State, s.su.driven = .off ∨ s.su.driven = .steady → exec .periodBoundary s = .next s) ∧
  (∀ s : State, s.cs.save = .idle → exec .saveEnd s = .next s) ∧
  (∀ (w : Winch) (s : State), s.wlc[w].windowClosed < 20 → exec (.windowEnd w) s = .next s) ∧
  (∀ (w : Winch) (s : State), (∀ q, s.wlc[w].query = some q → s.wlc[w].exchangeOpen = true ∨ q.carried < 40) →
    exec (.queryTimeout w) s = .next s) ∧
  (∀ s : State, s.chan.fcToZt = [] → exec .positionReport s = .next s) ∧
  (∀ s : State, s.chan.ztToCt = [] → exec .changeReportCt s = .next s) ∧
  (∀ s : State, s.chan.fcToCt = [] → exec .allowanceReport s = .next s) ∧
  (∀ s : State, s.chan.notices = [] → exec .noticeHanded s = .next s) ∧
  (∀ s : State, (∀ r, s.chan.ztToFc.head? ≠ some (.change r)) → exec .changeReportFc s = .next s) ∧
  (∀ s : State, (∀ c n, s.chan.ztToFc.head? ≠ some (.summary c n)) → exec .zoneSummary s = .next s) ∧
  (∀ (b : Block) (s : State), (∀ c, (s.chan.toFc b).head? ≠ some (.raise c)) → exec (.stopCauseRaise b) s = .next s) ∧
  (∀ (b : Block) (s : State), (∀ c, (s.chan.toFc b).head? ≠ some (.clear c)) → exec (.stopCauseClear b) s = .next s) ∧
  (∀ (b : Block) (s : State), (∀ n, (s.chan.toSu b).head? ≠ some (.raise n)) → exec (.conditionRaiseAtSu b) s = .next s) ∧
  (∀ (b : Block) (s : State), (∀ n, (s.chan.toSu b).head? ≠ some (.clear n)) → exec (.conditionClearAtSu b) s = .next s) ∧
  (∀ s : State, (∀ set, s.chan.fcToSu.head? ≠ some (.airborne set)) → exec .airborneIndication s = .next s) ∧
  (∀ s : State, (∀ w d, s.chan.wlcToFc.head? ≠ some (.driveStatus w d)) → exec .driveStatus s = .next s) ∧
  (∀ s : State, (∀ w l, s.chan.wlcToFc.head? ≠ some (.linkState w l)) → exec .linkState s = .next s) ∧
  (∀ s : State, (∀ b, s.chan.lmToFc.head? ≠ some (.high b)) → exec .highFlag s = .next s) ∧
  (∀ s : State, (∀ b, s.chan.lmToFc.head? ≠ some (.warm b)) → exec .warmFlag s = .next s) ∧
  (∀ s : State, (∀ b, s.chan.lmToFc.head? ≠ some (.hot b)) → exec .hotFlag s = .next s) ∧
  (∀ s : State, s.part.restartAccepted = false ∨ s.cif.safety.inProgress ≠ none ∨
      (∃ f ∈ s.cif.safety.tx, f.notice = false ∧ f.kind = 0xE3#8 ∧ f.body.head? = some 0#8) →
    exec .restartResponseSent s = .next s)

/-- An answer is placed as a response frame on the port that asked, or waits there, and touches nothing else -/
def Obligations.AnswersArePlacedOnTheAskingPort : Prop :=
  (∀ (p p' : Port) (result : Result) (content : List Byte) (s : State),
    respond p result content s = { s with cif := (respond p result content s).cif } ∧
    (respond p result content s).cif.rate = s.cif.rate ∧
    (p' ≠ p → (respond p result content s).cif.port p' = s.cif.port p')) ∧
  (∀ (p : Port) (result : Result) (content : List Byte) (s : State) (kind tag : Byte) (stage : Stage),
    (s.cif.port p).inProgress = some ⟨kind, tag, stage⟩ → content.length ≤ 238 →
    (s.cif.port p).used + (8 + content.length) ≤ 512 →
    let tx := (s.cif.port p).tx ++ [responseFrame kind tag result (s.cif.port p).overrun content]
    let q' := (respond p result content s).cif.port p
    ((s.cif.port p).queue = [] → q' = { s.cif.port p with tx := tx, overrun := false, inProgress := none }) ∧
    (s.part.restartAccepted = true → q' = { s.cif.port p with tx := tx, overrun := false, inProgress := none }) ∧
    (∀ r rest request, s.part.restartAccepted = false → (s.cif.port p).queue = r :: rest → checkRequest p r = .inl request →
      q' = { s.cif.port p with
        tx := tx, overrun := false, queue := rest, inProgress := some ⟨r.kind, r.tag, .handed request⟩ })) ∧
  (∀ (p : Port) (result : Result) (content : List Byte) (s : State) (kind tag : Byte) (stage : Stage),
    (s.cif.port p).inProgress = some ⟨kind, tag, stage⟩ → content.length ≤ 238 →
    512 < (s.cif.port p).used + (8 + content.length) → (∀ f ∈ (s.cif.port p).tx, f.notice = false) →
    (respond p result content s).cif.port p =
      { s.cif.port p with
        inProgress := some ⟨kind, tag, .waiting { kind := kind + 0x80#8, tag := tag, result := result, content := content }⟩ })

/-- CIF refuses an unknown kind, then a port without the grant, then a body that does not fit -/
def Obligations.ConsoleChecksKindGrantAndLength : Prop :=
  ∀ (p : Port) (r : QueuedRequest),
    let known := [0x10, 0x11, 0x12, 0x13, 0x14, 0x15, 0x16, 0x17, 0x18, 0x19, 0x20, 0x21, 0x22, 0x28, 0x29, 0x2A, 0x2B, 0x30, 0x31, 0x32,
      0x33, 0x34, 0x40, 0x41, 0x42, 0x43, 0x44, 0x45, 0x46, 0x50, 0x51, 0x52, 0x58, 0x59, 0x60, 0x61, 0x62, 0x63]
    let deniedTo := match p with
      | .pilot => [0x20, 0x21, 0x44, 0x45, 0x51, 0x61, 0x62, 0x63]
      | .director => [0x40, 0x41, 0x44, 0x45, 0x61, 0x62, 0x63]
      | .safety => [0x41, 0x42]
    (r.kind.toNat ∉ known → checkRequest p r = .inr .unknown) ∧
    (r.kind.toNat ∈ known → r.kind.toNat ∈ deniedTo → checkRequest p r = .inr .denied) ∧
    (r.kind.toNat ∈ known → r.kind.toNat ∉ deniedTo → parseRequest r.kind r.body = none → checkRequest p r = .inr .badField) ∧
    (∀ request, r.kind.toNat ∈ known → r.kind.toNat ∉ deniedTo → parseRequest r.kind r.body = some request →
      checkRequest p r = .inl request)

/-- A request frame that passes its CRC is queued, handed to its owner at once on an idle port, or answered BUSY -/
def Obligations.RequestFramesArrive : Prop :=
  ∀ (p : Port) (kind tag : Byte) (body : List Byte) (s : State),
    s.part.supply = true → s.part.resetLine = false → body.length ≤ 240 → (s.cif.port p).rx = .hunt →
    let q := { s.cif.port p with rx := .hunt, gapTimer := none }
    let r : QueuedRequest := { kind := kind, tag := tag, body := body }
    ∃ q', exec (.requestArrival p (requestFrame kind tag body (requestCrc kind tag body))) s =
        .next { s with cif := s.cif.setPort p q' } ∧
      (q.inProgress.isSome = true → q.queue.length < 4 → q' = { q with queue := q.queue ++ [r] }) ∧
      (q.inProgress = none → q.queue = [] → s.part.restartAccepted = false → ∀ request, checkRequest p r = .inl request →
        q' = { q with inProgress := some ⟨kind, tag, .handed request⟩ }) ∧
      (q.inProgress = none → q.queue = [] → s.part.restartAccepted = false → ∀ refusal, checkRequest p r = .inr refusal →
        q.used + 8 ≤ 512 → q' = { q with tx := q.tx ++ [responseFrame kind tag refusal q.overrun []], overrun := false }) ∧
      (s.part.restartAccepted = true → q.queue.length < 4 → q' = { q with queue := q.queue ++ [r] }) ∧
      (4 ≤ q.queue.length → q.used + 8 ≤ 512 →
        q' = { q with tx := q.tx ++ [responseFrame kind tag .busy q.overrun []], overrun := false })

/-- A frame with a wrong CRC, a length above 240, a framing error or a gap is discarded and counted, and nothing else happens -/
def Obligations.BadFramesAreDiscardedAndCounted : Prop :=
  ∀ (p : Port) (s : State), s.part.supply = true → s.part.resetLine = false →
    let counted := withPort p (fun q =>
      { q with rx := .hunt, gapTimer := none, badFrames := if q.badFrames < 65535 then q.badFrames + 1 else q.badFrames })
    (∀ (kind tag : Byte) (body : List Byte) (crc : BitVec 16), (s.cif.port p).rx = .hunt → body.length ≤ 240 →
      crc ≠ requestCrc kind tag body → exec (.badFrame p (requestFrame kind tag body crc)) s = .next (counted s)) ∧
    (∀ n : Byte, (s.cif.port p).rx = .hunt → 240 < n.toNat → exec (.badFrame p [.byte 0xA5#8, .byte n]) s = .next (counted s)) ∧
    ((s.cif.port p).rx ≠ .hunt → exec (.badFrame p [.framingError]) s = .next (counted s)) ∧
    (∀ due, (s.cif.port p).gapTimer = some due → exec (.gapTimerExpiry p) s = .next (counted (atExpiry due s)))

/-- Notices are placed on every port with room, give way to responses newest first, and bytes sent free room that a waiting response takes -/
def Obligations.TransmitBuffersTakeNoticesAndKeepResponses : Prop :=
  (∀ (p : Port) (sent : Nat) (s : State), s.part.supply = true → s.part.resetLine = false →
    let q := s.cif.port p
    ∃ q', exec (.transmitRoomFreed p sent) s = .next { s with cif := s.cif.setPort p q' } ∧
      (q.responseWaits = false →
        q' = { q with tx := q'.tx, txSent := q'.txSent } ∧ q'.tx <:+ q.tx ∧
        (q.txSent + sent ≤ (q.tx.map TxFrame.size).sum → q'.used = q.used - sent)) ∧
      (∀ kind tag r, q.inProgress = some ⟨kind, tag, .waiting r⟩ → r.content.length ≤ 238 → q.queue = [] →
        q.txSent + sent ≤ (q.tx.map TxFrame.size).sum → q.used - sent + (8 + r.content.length) ≤ 512 →
        q'.tx.getLast? = some { notice := false, kind := r.kind, tag := r.tag, body := u8 r.result.code ++ flag q.overrun ++ r.content } ∧
        q'.overrun = false ∧ q'.inProgress = none)) ∧
  (∀ (n : Nat) (q : PortState),
    let q' := q.makeRoom n q.tx.length
    (q.fits n = true → q' = q) ∧
    q'.tx.Sublist q.tx ∧ q'.tx.filter (fun f => !f.notice) = q.tx.filter (fun f => !f.notice) ∧
    q'.tx.filter TxFrame.notice <+: q.tx.filter TxFrame.notice ∧
    (0 < q.txSent → q'.tx.head? = q.tx.head?) ∧
    (q'.tx ≠ q.tx → q'.overrun = true) ∧ (q'.tx = q.tx → q' = q) ∧
    (q'.fits n = true ∨ ∀ f ∈ (if q'.txSent = 0 then q'.tx else q'.tx.tail), f.notice = false)) ∧
  (∀ (n : Notice) (rest : List Notice) (s : State), s.part.supply = true → s.part.resetLine = false → s.chan.notices = n :: rest →
    let f : TxFrame := { notice := true, kind := n.encode.1, tag := 0, body := n.encode.2 }
    ∃ u, exec .noticeHanded s = .next u ∧ u = { s with chan := { s.chan with notices := rest }, cif := u.cif } ∧ u.cif.rate = s.cif.rate ∧
      ∀ p : Port,
        u.cif.port p =
          if (s.cif.port p).responseWaits = true ∨ 512 < (s.cif.port p).used + f.size then { s.cif.port p with overrun := true }
          else { s.cif.port p with tx := (s.cif.port p).tx ++ [f] })

/-- Every step keeps each port's queue, buffer and counter in their sizes, and its receiver in a state of its table -/
def Obligations.PortsStaySound : Prop :=
  Kept PortsWithinBounds ∧ Kept ReceiversSound

/-- A request that names a zone is refused BAD_FIELD, NO_ZONE or STALE by the first naming test that fails, and otherwise acts on the zone in the slot -/
def Obligations.NamedZoneRequestsAreTestedInOrder : Prop :=
  ∀ (r : Request) (p : Port) (s : State) (handle gen : Byte), Asked s p r → r.zoneName = some (handle, gen) →
    (48 ≤ handle.toNat → Refuses (r.command p) s p .badField) ∧
    (∀ h : ZoneHandle, handle.toNat = h.val → s.zt.zone h = none → Refuses (r.command p) s p .noZone) ∧
    (∀ (h : ZoneHandle) (z : Zone), handle.toNat = h.val → s.zt.zone h = some z → s.zt.slots[h].generation ≠ gen →
      Refuses (r.command p) s p .stale) ∧
    (∀ (h : ZoneHandle) (z : Zone), NamesZone s handle gen h z →
      ∃ result content u, Answers (r.command p) s p result content u ∧
        ∀ j : ZoneHandle, j ≠ h → u.zt.slots[j].generation = s.zt.slots[j].generation ∧
          (u.zt.zone j).map (fun y => (y.cls, y.owner, y.box)) = (s.zt.zone j).map (fun y => (y.cls, y.owner, y.box)))

/-- ZONE PUT answers at the first check that fails, and a request on a named zone that the matrix does not grant is refused DENIED -/
def Obligations.ZoneRequestsAreGrantedAndCheckedInOrder : Prop :=
  (∀ (p : Port) (cb : Byte) (box : Box) (guard hyst cap : Int) (group : Option Byte) (life : Option Int) (s : State),
    Asked s p (.zonePut cb box guard hyst cap group life) →
    let g := s.cs.record.geometry
    let granted (c : ZoneClass) := rowGrants (zoneRow s.cs.record.matrix c .put) p true = true
    let fits (c : ZoneClass) := boxFits g box = true ∧ guardAndCapFit g s.cs.record.motion guard cap = true ∧ hystInRange hyst = true ∧
      (∀ n, group = some n → n.toNat ≤ 7) ∧ putLifeFits c life = true
    (classOf cb = none → Refuses (.zonePut p) s p .badField) ∧
    ∀ c, classOf cb = some c →
      (¬ granted c → Refuses (.zonePut p) s p .denied) ∧
      (granted c → ¬ fits c → Refuses (.zonePut p) s p .badField) ∧
      (granted c → fits c → c = .fixed → 16 ≤ s.zt.fixedCount → Refuses (.zonePut p) s p .classFull) ∧
      (granted c → fits c → ¬ (c = .fixed ∧ 16 ≤ s.zt.fixedCount) → (∀ h : ZoneHandle, s.zt.zone h ≠ none) →
        Refuses (.zonePut p) s p .tableFull) ∧
      (∀ h : ZoneHandle, granted c → fits c → ¬ (c = .fixed ∧ 16 ≤ s.zt.fixedCount) → s.zt.zone h = none →
        clearOf g.standoff (s.zt.clearanceTo g box) = false → 8 < s.zt.queue.length + s.zt.close g + 1 →
        Refuses (.zonePut p) s p .pendingFull)) ∧
  (∀ (r : Request) (p : Port) (s : State) (handle gen : Byte) (h : ZoneHandle) (z : Zone) (op : ZoneOp) (cell : Cell),
    Asked s p r → r.zoneName = some (handle, gen) → r.zoneOp = some op → NamesZone s handle gen h z →
    (p = .pilot ∧ cell = (zoneRow s.cs.record.matrix z.cls op).pilot ∨
      p = .director ∧ cell = (zoneRow s.cs.record.matrix z.cls op).director) →
    cell = .no ∨ (cell = .owned ∧ z.owner ≠ p) → Refuses (r.command p) s p .denied) ∧
  (∀ (s : State) (op : ZoneOp) (z : Zone), zoneGranted s .safety op z = true)

/-- ZONE PUT that passes its checks places the zone in the lowest FREE slot, ARMED or PENDING by the entry decision, and reports it -/
def Obligations.ZonePutPlacesTheZone : Prop :=
  ∀ (p : Port) (cb : Byte) (c : ZoneClass) (box : Box) (guard hyst cap : Int) (group : Option Byte) (life : Option Int) (h : ZoneHandle)
    (s : State),
    Asked s p (.zonePut cb box guard hyst cap group life) → ZoneTableSound s → classOf cb = some c →
    rowGrants (zoneRow s.cs.record.matrix c .put) p true = true →
    boxFits s.cs.record.geometry box = true → guardAndCapFit s.cs.record.geometry s.cs.record.motion guard cap = true →
    hystInRange hyst = true → (∀ n, group = some n → n.toNat ≤ 7) → putLifeFits c life = true →
    ¬ (c = .fixed ∧ 16 ≤ s.zt.fixedCount) → s.zt.zone h = none → (∀ j : ZoneHandle, j < h → s.zt.zone j ≠ none) →
    let g := s.cs.record.geometry
    let clearance := s.zt.clearanceTo g box
    let armed := clearOf g.standoff clearance
    armed = true ∨ s.zt.queue.length + s.zt.close g + 1 ≤ 8 →
    let expiry := life.map (fun l => s.zt.clock + BitVec.ofInt 32 l)
    let z : Zone :=
      { state := if armed then .armed else .pending, cls := c, owner := p, box := box, guard := guard, hyst := hyst, cap := cap,
        group := (group.getD 0).toNat, expiry := expiry, awaiting := false,
        relation := if below guard clearance then .near else .clear, clearance := clearance }
    let gen := s.zt.slots[h].generation + 1
    Answers (.zonePut p) s p .ok (u8 h.val ++ [gen] ++ u8 (if armed then 2 else 1) ++ optional word32 expiry)
      (handReport
        [{ handle := h, generation := gen, cls := c, kind := if armed then .arm else .pend, before := none, after := some z.state }]
        { s with
          zt := ({ s.zt with
            slots := put s.zt.slots h { generation := gen, zone := some z },
            queue := if armed then s.zt.queue else s.zt.queue ++ [h] }).setSubject g })

/-- ZONE SHIFT refuses a FIXED zone in force, bad fields and a missing place, and otherwise gives the zone its new box and state -/
def Obligations.ZoneShiftMovesTheZone : Prop :=
  ∀ (p : Port) (handle gen : Byte) (box : Box) (guard hyst cap : Option Int) (h : ZoneHandle) (z : Zone) (s : State),
    Asked s p (.zoneShift handle gen box guard hyst cap) → NamesZone s handle gen h z → zoneGranted s p .put z = true →
    let g := s.cs.record.geometry
    let moved : Zone := { z with box := box, guard := guard.getD z.guard, hyst := hyst.getD z.hyst, cap := cap.getD z.cap }
    let fits := boxFits g box = true ∧ (∀ v, guard = some v → guardInRange g v = true) ∧ (∀ v, hyst = some v → hystInRange v = true) ∧
      (∀ v, cap = some v → capInRange v = true) ∧ guardCapHolds g s.cs.record.motion moved.guard moved.cap = true
    let clearance := s.zt.clearanceTo g box
    let blocked := below g.standoff clearance = true
    let full := 8 < s.zt.queue.length + s.zt.close g + 1
    (z.cls = .fixed → z.state ≠ .suspended → Refuses (.zoneShift p) s p .locked) ∧
    (¬ (z.cls = .fixed ∧ z.state ≠ .suspended) → ¬ fits → Refuses (.zoneShift p) s p .badField) ∧
    (¬ (z.cls = .fixed ∧ z.state ≠ .suspended) → fits → z.state = .armed → blocked → full → Refuses (.zoneShift p) s p .pendingFull) ∧
    (¬ (z.cls = .fixed ∧ z.state ≠ .suspended) → fits → ¬ (z.state = .armed ∧ blocked ∧ full) → ZoneTableSound s →
      ∃ u after, Answers (.zoneShift p) s p .ok (u8 (slotStateCode (some after.state))) u ∧ OnlyZones s u ∧
        u.zt.slots = put s.zt.slots h { generation := gen, zone := some after } ∧
        after = { moved with state := after.state, relation := after.relation, clearance := after.clearance } ∧
        (z.state = .suspended → after = moved ∧ u.zt.queue = s.zt.queue) ∧
        (z.state ≠ .suspended → after.clearance = clearance ∧
          after.relation =
            match clearance with
            | none => .clear
            | some c => if c < moved.guard then .near else if moved.guard + moved.hyst ≤ c then .clear else z.relation) ∧
        (z.state = .armed → ¬ blocked → after.state = .armed ∧ u.zt.queue = s.zt.queue) ∧
        (z.state = .armed → blocked → after.state = .pending ∧ u.zt.queue = s.zt.queue ++ [h]) ∧
        (z.state = .pending → clearOf g.standoff clearance = false → after.state = .pending ∧ u.zt.queue = s.zt.queue) ∧
        (z.state = .pending → clearOf g.standoff clearance = true →
          after.state = .armed ∧ u.zt.queue = s.zt.queue.filter (· ≠ h)))

/-- ZONE RENEW sets the expiry to the clock value plus the life and changes nothing else of the table -/
def Obligations.ZoneRenewSetsTheExpiry : Prop :=
  ∀ (p : Port) (handle gen : Byte) (life : Int) (h : ZoneHandle) (z : Zone) (s : State),
    Asked s p (.zoneRenew handle gen life) → NamesZone s handle gen h z →
    (zoneGranted s p .put z = false → Refuses (.zoneRenew p) s p .denied) ∧
    (zoneGranted s p .put z = true → z.cls = .fixed → Refuses (.zoneRenew p) s p .badField) ∧
    (zoneGranted s p .put z = true → z.cls = .play → ¬ (10 ≤ life ∧ life ≤ 36000) → Refuses (.zoneRenew p) s p .badField) ∧
    (zoneGranted s p .put z = true → z.cls = .temporary → ¬ (10 ≤ life ∧ life ≤ 6000) → Refuses (.zoneRenew p) s p .badField) ∧
    (zoneGranted s p .put z = true →
      (z.cls = .play ∧ 10 ≤ life ∧ life ≤ 36000) ∨ (z.cls = .temporary ∧ 10 ≤ life ∧ life ≤ 6000) →
      let expiry := s.zt.clock + BitVec.ofInt 32 life
      Answers (.zoneRenew p) s p .ok (word32 expiry)
        { s with
          zt := { s.zt with slots := put s.zt.slots h { generation := gen, zone := some { z with expiry := some expiry } } },
          chan := { s.chan with
            notices := s.chan.notices ++ [.zoneChanged ⟨h, gen⟩ z.cls .renew (some z.state) (some expiry)] } })

/-- ZONE SUSPEND takes a zone out of force, ZONE RESUME brings it back by the entry decision, ZONE DROP frees its slot -/
def Obligations.ZoneSuspendResumeDrop : Prop :=
  (∀ (p : Port) (handle gen : Byte) (h : ZoneHandle) (z : Zone) (s : State),
    NamesZone s handle gen h z → ZoneTableSound s →
    (Asked s p (.zoneSuspend handle gen) → zoneGranted s p .suspend z = true →
      (z.state = .suspended → Answers (.zoneSuspend p) s p .ok (u8 3) s) ∧
      (z.state ≠ .suspended →
        Answers (.zoneSuspend p) s p .ok (u8 3)
          (afterChange s h
            { generation := gen, zone := some { z with state := .suspended, relation := .off, clearance := none } }
            (s.zt.queue.filter (· ≠ h)) z.cls .suspend))) ∧
    (Asked s p (.zoneDrop handle gen) → zoneGranted s p .drop z = true →
      Answers (.zoneDrop p) s p .ok []
        (afterChange s h { generation := gen, zone := none } (s.zt.queue.filter (· ≠ h)) z.cls .drop))) ∧
  (∀ (p : Port) (handle gen : Byte) (h : ZoneHandle) (z : Zone) (s : State),
    Asked s p (.zoneResume handle gen) → NamesZone s handle gen h z → zoneGranted s p .suspend z = true →
    let g := s.cs.record.geometry
    let clearance := s.zt.clearanceTo g z.box
    let armed := clearOf g.standoff clearance
    (z.state ≠ .suspended → Answers (.zoneResume p) s p .ok (u8 (slotStateCode (some z.state))) s) ∧
    (z.state = .suspended → armed = false → 8 < s.zt.queue.length + s.zt.close g + 1 → Refuses (.zoneResume p) s p .pendingFull) ∧
    (z.state = .suspended → armed = true ∨ s.zt.queue.length + s.zt.close g + 1 ≤ 8 → ZoneTableSound s →
      Answers (.zoneResume p) s p .ok (u8 (if armed then 2 else 1))
        (afterChange s h
          { generation := gen,
            zone := some
              { z with
                state := if armed then .armed else .pending, awaiting := false, clearance := clearance,
                relation := if below z.guard clearance then .near else .clear } }
          (if armed then s.zt.queue else s.zt.queue ++ [h]) z.cls (if armed then .arm else .pend))))

/-- ZONE READ reports every field of a zone, ZONE LIST the slots that pass its filters, and both change nothing -/
def Obligations.ZoneReadsReportTheTable : Prop :=
  (∀ (p : Port) (handle gen : Byte) (h : ZoneHandle) (z : Zone) (s : State),
    Asked s p (.zoneRead handle gen) → NamesZone s handle gen h z →
    Answers (.zoneRead p) s p .ok
      (u8 (slotStateCode (some z.state)) ++ [gen] ++ u8 z.cls.code ++ u8 z.owner.code ++ boxBytes z.box ++ i32 z.guard ++ i32 z.hyst ++
        i32 z.cap ++ u8 z.group ++ optional word32 z.expiry ++ flag z.awaiting ++ u8 z.relation.code ++ optional i32 z.clearance ++
        optional u8 ((s.zt.queue.findIdx? (· = h)).map (· + 1)) ++ flag (decide (s.zt.subject = some h)))
      s) ∧
  (∀ (p : Port) (states classes : Byte) (s : State), Asked s p (.zoneList states classes) →
    (states &&& 0x0E#8 ≠ states ∨ classes &&& 0x07#8 ≠ classes → Refuses (.zoneList p) s p .badField) ∧
    (states &&& 0x0E#8 = states → classes &&& 0x07#8 = classes →
      let listed := (List.finRange 48).filterMap (fun h =>
        (s.zt.zone h).bind (fun z =>
          if (states = 0 ∨ states.toNat.testBit (slotStateCode (some z.state)) = true) ∧
             (classes = 0 ∨ classes.toNat.testBit z.cls.code = true) then
            some (u8 h.val ++ [s.zt.slots[h].generation] ++ u8 (slotStateCode (some z.state)) ++ u8 z.cls.code)
          else none))
      Answers (.zoneList p) s p .ok (u8 listed.length ++ listed.flatten) s))

/-- GROUP SUSPEND and GROUP RESUME act on every zone of the group that the role may act on, all or none -/
def Obligations.GroupRequestsActOnEveryGrantedZone : Prop :=
  ∀ (p : Port) (group : Byte) (s : State),
    let g := s.cs.record.geometry
    let chosen (inForce : Bool) (h : ZoneHandle) : Bool :=
      match s.zt.zone h with
      | some z => decide (z.group = group.toNat) && decide ((z.state ≠ .suspended) = (inForce = true)) && zoneGranted s p .suspend z
      | none => false
    (Asked s p (.groupSuspend group) → ¬ (1 ≤ group.toNat ∧ group.toNat ≤ 7) → Refuses (.groupSuspend p) s p .badField) ∧
    (Asked s p (.groupResume group) → ¬ (1 ≤ group.toNat ∧ group.toNat ≤ 7) → Refuses (.groupResume p) s p .badField) ∧
    (Asked s p (.groupSuspend group) → 1 ≤ group.toNat → group.toNat ≤ 7 → ZoneTableSound s →
      let hs := (List.finRange 48).filter (chosen true)
      ∃ u, Answers (.groupSuspend p) s p .ok (u8 hs.length) u ∧ OnlyZones s u ∧ (hs = [] → u = s) ∧
        u.zt.queue = s.zt.queue.filter (fun h => !chosen true h) ∧
        ∀ h : ZoneHandle, u.zt.slots[h] =
          if chosen true h then
            { s.zt.slots[h] with
              zone := (s.zt.zone h).map (fun z => { z with state := .suspended, relation := .off, clearance := none }) }
          else s.zt.slots[h]) ∧
    (Asked s p (.groupResume group) → 1 ≤ group.toNat → group.toNat ≤ 7 →
      let hs := (List.finRange 48).filter (chosen false)
      let waits (h : ZoneHandle) : Bool :=
        match s.zt.zone h with | some z => !clearOf g.standoff (s.zt.clearanceTo g z.box) | none => false
      let need := (hs.filter waits).length
      (0 < need → 8 < s.zt.queue.length + s.zt.close g + need → Refuses (.groupResume p) s p .pendingFull) ∧
      (need = 0 ∨ s.zt.queue.length + s.zt.close g + need ≤ 8 → ZoneTableSound s →
        ∃ u, Answers (.groupResume p) s p .ok (u8 hs.length) u ∧ OnlyZones s u ∧ (hs = [] → u = s) ∧
          u.zt.queue = s.zt.queue ++ hs.filter waits ∧
          ∀ h : ZoneHandle, u.zt.slots[h] =
            if chosen false h then
              { s.zt.slots[h] with
                zone := (s.zt.zone h).map (fun z =>
                  { z with
                    state := if waits h then .pending else .armed, awaiting := false, clearance := s.zt.clearanceTo g z.box,
                    relation := if below z.guard (s.zt.clearanceTo g z.box) then .near else .clear }) }
            else s.zt.slots[h]))

/-- A change report goes to CT and to FC alike, then one notice for each entry goes to CIF -/
def Obligations.ZoneReportsAreHandedOnTogether : Prop :=
  ∀ (entries : List ChangeEntry) (s : State),
    let r : ChangeReport :=
      { changes := entries, inForce := s.zt.forceZones, subject := s.zt.subject.map (fun h => ⟨h, s.zt.slots[h].generation⟩),
        relieving := entries.any (fun e => decide (e.kind ∈ [ChangeKind.shift, .suspend, .drop, .expire])), nearCap := s.zt.nearCap }
    handReport entries s =
      { s with
        chan := { s.chan with
          ztToCt := s.chan.ztToCt ++ [r], ztToFc := s.chan.ztToFc ++ [.change r],
          notices := s.chan.notices ++ entries.map (fun e => .zoneChanged ⟨e.handle, e.generation⟩ e.cls e.kind e.after none) } } ∧
    (∀ f : ForceZone, f ∈ s.zt.forceZones ↔ ∃ z, s.zt.slots[f.handle] = { generation := f.generation, zone := some z } ∧
      z.state ≠ .suspended ∧
      f = { handle := f.handle, generation := f.generation, state := z.state, box := z.box, guard := z.guard, hyst := z.hyst, cap := z.cap,
            clearance := z.clearance }) ∧
    (s.zt.forceZones.map (fun f => f.handle)).Pairwise (· < ·) ∧
    (∀ v, s.zt.nearCap = some v ↔
      (∃ h z, s.zt.zone h = some z ∧ z.state ≠ .suspended ∧ z.relation = .near ∧ z.cap = v) ∧
      ∀ h z, s.zt.zone h = some z → z.state ≠ .suspended → z.relation = .near → v ≤ z.cap)

/-- CLOCK READ answers OK to every role with the clock value, the frozen flag and the held-carry flag, and changes nothing -/
def Obligations.ClockReadReportsTheClock : Prop :=
  (∀ (p : Port) (s : State), Asked s p .clockRead →
    Answers (.clockRead p) s p .ok (word32 s.zt.clock ++ flag s.zt.frozen ++ flag s.zt.held) s) ∧
  (∀ (p : Port) (tag : Byte) (body : List Byte),
    checkRequest p { kind := 0x22#8, tag := tag, body := body } = if body = [] then .inl .clockRead else .inr .badField)

/-- CLOCK FREEZE sets the frozen flag alone; CLOCK THAW clears it and applies a held carry at once -/
def Obligations.ClockFreezeAndThaw : Prop :=
  ∀ (p : Port) (s : State),
    (Asked s p .clockFreeze →
      Answers (.clockFreeze p) s p .ok (word32 s.zt.clock ++ flag true ++ flag s.zt.held) { s with zt := { s.zt with frozen := true } }) ∧
    (Asked s p .clockThaw → s.zt.frozen = false →
      Answers (.clockThaw p) s p .ok (word32 s.zt.clock ++ flag false ++ flag s.zt.held) s) ∧
    (Asked s p .clockThaw → s.zt.frozen = true → s.zt.held = false →
      Answers (.clockThaw p) s p .ok (word32 s.zt.clock ++ flag false ++ flag false) { s with zt := { s.zt with frozen := false } }) ∧
    (Asked s p .clockThaw → s.zt.frozen = true → s.zt.held = true →
      (∀ h z, s.zt.zone h = some z → z.expiry ≠ some (s.zt.clock + 1)) →
      Answers (.clockThaw p) s p .ok (word32 (s.zt.clock + 1) ++ flag false ++ flag false)
        { s with zt := { s.zt with clock := s.zt.clock + 1, frozen := false, held := false } })

/-- A carry restarts its timer 100 ms on, and advances the clock, retiring the zones whose life is over, or is held, or is lost -/
def Obligations.CarriesAdvanceRetireOrAreHeld : Prop :=
  (∀ s : State, s.part.supply = true → s.part.resetLine = false →
    (s.zt.frozen = true →
      exec .carry s = .next { atExpiry s.zt.carry s with zt := { s.zt with carry := s.zt.carry + 100, held := true } }) ∧
    (s.zt.frozen = false → (∀ h z, s.zt.zone h = some z → z.expiry ≠ some (s.zt.clock + 1)) →
      exec .carry s = .next { atExpiry s.zt.carry s with zt := { s.zt with carry := s.zt.carry + 100, clock := s.zt.clock + 1 } })) ∧
  (∀ s : State, s.part.supply = true → s.part.resetLine = false → ZoneTableSound s → s.zt.frozen = false →
    let expired (h : ZoneHandle) : Bool :=
      match s.zt.zone h with
      | some z => decide (z.expiry = some (s.zt.clock + 1))
      | none => false
    let hs := (List.finRange 48).filter expired
    hs ≠ [] →
    ∃ u, exec .carry s = .next u ∧ u = { atExpiry s.zt.carry s with zt := u.zt, chan := u.chan } ∧
      u.zt.clock = s.zt.clock + 1 ∧ u.zt.carry = s.zt.carry + 100 ∧ u.zt.frozen = false ∧ u.zt.held = s.zt.held ∧
      (∀ h : ZoneHandle, u.zt.slots[h] = if expired h then { s.zt.slots[h] with zone := none } else s.zt.slots[h]) ∧
      u.zt.queue = s.zt.queue.filter (fun h => !expired h) ∧
      ∃ r, u.chan.ztToCt = s.chan.ztToCt ++ [r] ∧ u.chan.ztToFc = s.chan.ztToFc ++ [.change r] ∧ r.relieving = true ∧
        r.changes.map (fun e => (e.handle, e.kind, e.before, e.after)) =
          hs.map (fun h => (h, ChangeKind.expire, s.zt.stateOf h, none)) ∧
        u.chan.notices.length = s.chan.notices.length + hs.length)

/-- A valid report arms, demotes and places zones, orders the queue, updates relations and hands the changes on; an invalid one clears clearances -/
def Obligations.PositionReportsArmAndDemote : Prop :=
  (∀ (r : PositionReport) (rest : List PositionReport) (s : State), s.part.supply = true → s.part.resetLine = false →
    s.chan.fcToZt = r :: rest → r.p = none →
    ∃ t : Zt, exec .positionReport s =
        .next { s with zt := t, chan := { s.chan with fcToZt := rest, ztToFc := s.chan.ztToFc ++ [.summary none none] } } ∧
      t = { s.zt with slots := t.slots, report := r, subject := none } ∧
      ∀ h : ZoneHandle, t.slots[h] =
        match s.zt.slots[h].zone with
        | some z =>
          if z.state = .suspended then s.zt.slots[h] else { s.zt.slots[h] with zone := some { z with clearance := none, relation := .clear } }
        | none => s.zt.slots[h]) ∧
  (∀ (r : PositionReport) (rest : List PositionReport) (p : Vec3) (s : State), s.part.supply = true → s.part.resetLine = false →
    s.chan.fcToZt = r :: rest → r.p = some p → PendingQueueSound s → ZoneFieldsFit s →
    let standoff := s.cs.record.geometry.standoff
    let clearanceOf (z : Zone) : Int := clearance s.cs.record.geometry p r.a z.box
    let close (h : ZoneHandle) : Bool := (s.zt.zone h).any (fun z => decide (clearanceOf z < standoff))
    let awaits (h : ZoneHandle) : Bool := (s.zt.zone h).any Zone.awaiting
    let staying := s.zt.queue.filter close
    let demoted := (List.finRange 48).filter (fun h => decide (s.zt.stateOf h = some .armed) && close h)
    let joining := demoted.take (8 - staying.length)
    let placed := ((List.finRange 48).filter (fun h => awaits h && close h)).take (8 - (staying ++ joining).length)
    let overflows := joining ≠ demoted ∨ ∃ h, awaits h = true ∧ close h = true ∧ h ∉ placed
    let change (h : ZoneHandle) (kind : ChangeKind) (after : ZoneState) := (h, kind, s.zt.stateOf h, some after)
    let entries :=
      (s.zt.queue.filter (fun h => !close h)).map (fun h => change h .arm .armed) ++
      demoted.map (fun h => change h .demote (if h ∈ joining then .pending else .suspended)) ++
      ((List.finRange 48).filter (fun h => awaits h && (!close h || decide (h ∈ placed)))).map (fun h =>
        if close h then change h .pend .pending else change h .arm .armed)
    ∃ u, exec .positionReport s = .next u ∧ OnlyZones s u ∧ u.zt = { s.zt with
          slots := u.zt.slots, queue := staying ++ joining ++ placed, subject := (staying ++ joining ++ placed).head?, report := r,
          overflow := u.zt.overflow } ∧
      (u.zt.overflow = true ↔ s.zt.overflow = true ∨ overflows) ∧ u.chan.fcToZt = rest ∧
      u.chan.ztToSu = s.chan.ztToSu ++ (if overflows ∧ s.zt.overflow = false then [.raise condDemoteOverflow] else []) ∧
      (entries = [] → u.chan.ztToCt = s.chan.ztToCt ∧ u.chan.notices = s.chan.notices ∧
        u.chan.ztToFc = s.chan.ztToFc ++ (if overflows then [.raise .demoteOverflow] else []) ++ [.summary u.zt.nearCap u.zt.subjectName]) ∧
      (entries ≠ [] →
        ∃ report, report.changes.map (fun e => (e.handle, e.kind, e.before, e.after)) = entries ∧
          u.chan.ztToCt = s.chan.ztToCt ++ [report] ∧
          u.chan.ztToFc = s.chan.ztToFc ++ (if overflows then [.raise .demoteOverflow] else []) ++ [.change report] ∧
          u.chan.notices.length = s.chan.notices.length + entries.length) ∧
      ∀ h : ZoneHandle, u.zt.slots[h].generation = s.zt.slots[h].generation ∧
        (s.zt.zone h = none → u.zt.zone h = none) ∧
        ∀ z, s.zt.zone h = some z →
          let inForce (state : ZoneState) : Zone :=
            { z with
              state := state, awaiting := false, clearance := some (clearanceOf z),
              relation :=
                if clearanceOf z < z.guard then .near
                else if z.guard + z.hyst ≤ clearanceOf z ∨ z.state = .suspended then .clear else z.relation }
          let out : Zone := { z with state := .suspended, awaiting := false, clearance := none, relation := .off }
          (z.state = .suspended → z.awaiting = false → u.zt.zone h = some z) ∧
          (z.state = .suspended → z.awaiting = true →
            u.zt.zone h = some (if close h = false then inForce .armed else if h ∈ placed then inForce .pending else { z with awaiting := false })) ∧
          (z.state = .pending → u.zt.zone h = some (if close h then inForce .pending else inForce .armed)) ∧
          (z.state = .armed →
            u.zt.zone h = some (if close h = false then inForce .armed else if h ∈ joining then inForce .pending else out)))

/-- Every step keeps the zone table sound: the pending queue, the clearances, and ARMED and PENDING by STANDOFF -/
def Obligations.ZoneTableStaysSound : Prop :=
  Kept ZoneTableSound

/-- Every step keeps the subject at the blocked head, FIXED zones at 16 and without expiry, and the awaiting flag on SUSPENDED FIXED zones -/
def Obligations.ZoneDetailsStayFit : Prop :=
  Kept SubjectIsTheBlockedHead ∧ Kept FixedCountBounded ∧ Kept ZoneFieldsFit

/-- CUE STORE is refused in its order, or fills an EMPTY slot or overwrites the named one with the cue marked READY or BLOCKED -/
def Obligations.CueStoreFillsOrOverwrites : Prop :=
  ∀ (p : Port) (hb : Byte) (label : List Byte) (target : Vec3) (cruise tolerance dwell : Int) (s : State),
    Asked s p (.cueStore hb label target cruise tolerance dwell) →
    let g := s.cs.record.geometry
    let fits := label.length ≤ 12 ∧ (∀ b ∈ label, 0x20 ≤ b.toNat ∧ b.toNat ≤ 0x7E) ∧ insideVolume g 0 (pointUm target) = true ∧
      (200 ≤ cruise ∧ cruise ≤ 9000) ∧ (50 ≤ tolerance ∧ tolerance ≤ 1000) ∧ (0 ≤ dwell ∧ dwell ≤ 600000)
    let running (h : CueHandle) := ∃ e ∈ s.ct.queue, e.status = .running ∧ e.handle = h ∧ e.generation = s.ct.slots[h].generation
    let count := (s.ct.zones.filter (fun z => decide (clearance g (pointUm target) s.ct.allowance z.box < g.standoff))).length
    let stored (h : CueHandle) : Prop :=
      let gen := if s.ct.cue h = none then s.ct.slots[h].generation + 1 else s.ct.slots[h].generation
      let state : CueState := if count = 0 then .ready else .blocked
      Answers (.cueStore p) s p .ok (u8 h.val ++ [gen] ++ u8 state.code ++ u8 count)
        { s with
          ct := { s.ct with
            slots := put s.ct.slots h
              { generation := gen,
                cue := some { label := label, target := target, cruise := cruise, tolerance := tolerance, dwell := dwell, owner := p,
                              blockers := count } } },
          chan := { s.chan with notices := s.chan.notices ++ [.cueChanged h gen .store state count] } }
    let granted (own : Bool) := rowGrants s.cs.record.matrix.cue p own = true
    (32 ≤ hb.toNat → hb ≠ 0xFF#8 → Refuses (.cueStore p) s p .badField) ∧
    (∀ h : CueHandle, hb.toNat = h.val →
      let own := (s.ct.cue h).all (fun c => decide (c.owner = p))
      (¬ granted own → Refuses (.cueStore p) s p .denied) ∧
      (granted own → ¬ fits → Refuses (.cueStore p) s p .badField) ∧
      (granted own → fits → running h → Refuses (.cueStore p) s p .inUse) ∧
      (granted own → fits → ¬ running h → stored h)) ∧
    (hb = 0xFF#8 →
      (¬ granted true → Refuses (.cueStore p) s p .denied) ∧
      (granted true → ¬ fits → Refuses (.cueStore p) s p .badField) ∧
      (granted true → fits → (∀ h, s.ct.cue h ≠ none) → Refuses (.cueStore p) s p .tableFull) ∧
      (∀ h : CueHandle, granted true → fits → s.ct.cue h = none → (∀ j : CueHandle, j < h → s.ct.cue j ≠ none) → stored h))

/-- A request that names a cue is refused BAD_FIELD, NO_CUE or STALE by the first naming test that fails; QUEUE ADD tests its grant and start kind before -/
def Obligations.NamedCueRequestsAreTestedInOrder : Prop :=
  (∀ (r : Request) (p : Port) (s : State) (handle gen : Byte), Asked s p r →
    (r.cueName = some (handle, gen) ∨
      ∃ kind : Byte, r = .queueAdd handle gen kind ∧ kind.toNat ≤ 1 ∧ queueGrants s.cs.record.matrix.queueAdd p = true) →
    (32 ≤ handle.toNat → Refuses (r.command p) s p .badField) ∧
    (∀ h : CueHandle, handle.toNat = h.val → s.ct.cue h = none → Refuses (r.command p) s p .noCue) ∧
    (∀ h : CueHandle, handle.toNat = h.val → s.ct.cue h ≠ none → s.ct.slots[h].generation ≠ gen → Refuses (r.command p) s p .stale)) ∧
  ∀ (p : Port) (s : State) (handle gen kind : Byte), Asked s p (.queueAdd handle gen kind) →
    (queueGrants s.cs.record.matrix.queueAdd p = false → Refuses (.queueAdd p) s p .denied) ∧
    (queueGrants s.cs.record.matrix.queueAdd p = true → 1 < kind.toNat → Refuses (.queueAdd p) s p .badField)

/-- CUE DROP empties the slot and removes every entry that names the cue; of a running cue it ends the run -/
def Obligations.CueDropRemovesTheCueAndItsEntries : Prop :=
  ∀ (p : Port) (handle gen : Byte) (h : CueHandle) (c : Cue) (s : State),
    Asked s p (.cueDrop handle gen) → NamesCue s handle gen h c →
    let granted := rowGrants s.cs.record.matrix.cue p (decide (c.owner = p)) = true
    let names (e : QueueEntry) : Bool := decide (e.handle = h ∧ e.generation = gen)
    (¬ granted → Refuses (.cueDrop p) s p .denied) ∧
    (granted → (∀ e ∈ s.ct.queue, names e = false) →
      Answers (.cueDrop p) s p .ok (u8 0)
        { s with
          ct := { s.ct with slots := put s.ct.slots h { generation := gen, cue := none } },
          chan := { s.chan with notices := s.chan.notices ++ [.cueChanged h gen .drop .empty 0] } }) ∧
    (granted → ShotQueueSound s →
      ∃ u, Answers (.cueDrop p) s p .ok (u8 (s.ct.queue.filter names).length) u ∧ OnlyFlight s u ∧
        u.ct.slots = put s.ct.slots h { generation := gen, cue := none } ∧
        u.ct.queue.map (fun e => (e.handle, e.generation, e.kind)) =
          (s.ct.queue.filter (fun e => !names e)).map (fun e => (e.handle, e.generation, e.kind)) ∧
        u.fc.v = s.fc.v ∧ u.fc.p = s.fc.p ∧
        (∀ r, u.fc.run = some r → s.fc.run = some r ∨ ¬ (r.handle = h ∧ r.generation = gen)) ∧
        ((∃ e ∈ s.ct.queue, names e = true ∧ e.status = .running) → ∀ r, u.fc.run = some r → ¬ (r.handle = h ∧ r.generation = gen)))

/-- CUE READ, CUE LIST and QUEUE READ report what CT holds and change nothing -/
def Obligations.CueAndQueueReadsChangeNothing : Prop :=
  (∀ (p : Port) (handle gen : Byte) (h : CueHandle) (c : Cue) (s : State), Asked s p (.cueRead handle gen) → NamesCue s handle gen h c →
    let names (e : QueueEntry) : Bool := decide (e.handle = h ∧ e.generation = gen)
    Answers (.cueRead p) s p .ok
      (u8 (if c.blockers = 0 then 1 else 2) ++ [gen] ++ (u8 c.label.length ++ c.label) ++ vec c.target ++ i32 c.cruise ++ i32 c.tolerance ++
        i32 c.dwell ++ u8 c.owner.code ++ u8 c.blockers ++ u8 (s.ct.queue.filter names).length ++
        flag (s.ct.queue.any (fun e => names e && decide (e.status = .running)))) s) ∧
  (∀ (p : Port) (states : Byte) (s : State), Asked s p (.cueList states) →
    (states &&& 0x06#8 ≠ states → Refuses (.cueList p) s p .badField) ∧
    (states &&& 0x06#8 = states →
      let listed := (List.finRange 32).filterMap (fun h =>
        (s.ct.cue h).bind (fun c =>
          let code := if c.blockers = 0 then 1 else 2
          if states = 0 ∨ states.toNat.testBit code = true then
            some (u8 h.val ++ [s.ct.slots[h].generation] ++ u8 code ++ u8 c.blockers ++ (u8 c.label.length ++ c.label))
          else none))
      Answers (.cueList p) s p .ok (u8 listed.length ++ listed.flatten) s)) ∧
  (∀ (p : Port) (s : State), Asked s p .queueRead →
    Answers (.queueRead p) s p .ok
      (u8 s.ct.queue.length ++
        (s.ct.queue.zipIdx).flatMap (fun q => u8 (q.2 + 1) ++ (u8 q.1.handle.val ++ [q.1.generation] ++ u8 q.1.kind.code ++ u8 q.1.status.code)) ++
        flag s.ct.halted ++
        (match s.ct.dwell with | none => u8 0 | some due => u8 1 ++ i32 (remainingMs due s.part.partTime))) s)

/-- QUEUE ADD joins the tail and starts an AUTO entry of an empty queue in HOLD; the dwell timer stops at its expiry and starts an AUTO head -/
def Obligations.QueueAddAndDwellExpiryStartTheHead : Prop :=
  (∀ (p : Port) (handle gen kb : Byte) (h : CueHandle) (c : Cue) (kind : StartKind) (s : State),
    Asked s p (.queueAdd handle gen kb) → queueGrants s.cs.record.matrix.queueAdd p = true → startKindOf kb = some kind →
    NamesCue s handle gen h c →
    let entry (status : EntryStatus) : QueueEntry := { handle := h, generation := gen, kind := kind, status := status }
    let place := s.ct.queue.length + 1
    let starts := s.ct.queue = [] ∧ s.fc.mode = .hold ∧ s.fc.latch = false ∧ s.ct.halted = false ∧ kind = .auto ∧ s.ct.dwell = none
    let clear := ∀ point, s.fc.p = some point → PathClear s point (pointUm c.target)
    (6 ≤ s.ct.queue.length → Refuses (.queueAdd p) s p .queueFull) ∧
    (s.ct.queue.length < 6 → ¬ starts →
      Answers (.queueAdd p) s p .ok (u8 place ++ u8 0)
        (notify (.queueChanged place (s.ct.queue ++ [entry .waiting]).head? s.ct.halted)
          { s with ct := { s.ct with queue := s.ct.queue ++ [entry .waiting] } })) ∧
    (starts → c.blockers = 0 → clear →
      ∃ u, Answers (.queueAdd p) s p .ok (u8 1 ++ u8 1) u ∧ OnlyFlight s u ∧
        u.ct = { s.ct with queue := [entry .running] } ∧
        u.fc = { s.fc with
          mode := .cue,
          run := some { handle := h, generation := gen, target := c.target, cruise := c.cruise, tolerance := c.tolerance } }) ∧
    (starts → ¬ (c.blockers = 0 ∧ clear) →
      Answers (.queueAdd p) s p .ok (u8 1 ++ u8 2)
        (notify (.queueChanged 1 (some (entry .blocked)) true)
          { s with ct := { s.ct with queue := [entry .blocked], halted := true } }))) ∧
  (∀ (due : PartTime) (s : State), s.part.supply = true → s.part.resetLine = false → s.ct.dwell = some due →
    let tests (e : QueueEntry) := s.fc.mode = .hold ∧ s.fc.latch = false ∧ s.ct.halted = false ∧ e.kind = .auto
    ((∀ e rest, s.ct.queue = e :: rest → ¬ tests e) →
      exec .dwellTimerExpiry s = .next { atExpiry due s with ct := { s.ct with dwell := none } }) ∧
    (∀ e rest c, s.ct.queue = e :: rest → tests e → s.ct.cue e.handle = some c → c.blockers = 0 →
      (∀ point, s.fc.p = some point → PathClear s point (pointUm c.target)) →
      ∃ u, exec .dwellTimerExpiry s = .next u ∧ OnlyFlight (atExpiry due s) u ∧
        u.ct = { s.ct with dwell := none, queue := { e with status := .running } :: rest } ∧
        u.fc = { s.fc with
          mode := .cue,
          run := some { handle := e.handle, generation := e.generation, target := c.target, cruise := c.cruise,
                        tolerance := c.tolerance } }))

/-- QUEUE TAKE starts the head whatever its start kind, or leaves it BLOCKED with the queue halted -/
def Obligations.QueueTakeStartsTheHead : Prop :=
  ∀ (p : Port) (s : State), Asked s p .queueTake →
    let granted := queueGrants s.cs.record.matrix.queueTake p = true
    (¬ granted → Refuses (.queueTake p) s p .denied) ∧
    (granted → s.ct.queue = [] → Refuses (.queueTake p) s p .empty) ∧
    ∀ e rest, granted → s.ct.queue = e :: rest →
      (s.fc.mode ≠ .hold ∨ s.fc.latch = true → Refuses (.queueTake p) s p .mode) ∧
      (s.fc.mode = .hold → s.fc.latch = false →
        let headAs (status : EntryStatus) := { e with status := status } :: rest
        let blocked := notify (.queueChanged s.ct.queue.length (some { e with status := .blocked }) true)
          { s with ct := { s.ct with queue := headAs .blocked, halted := true } }
        ((∀ c, s.ct.cue e.handle = some c → c.blockers ≠ 0) → Answers (.queueTake p) s p .blocked (u8 0) blocked) ∧
        (∀ c point f, s.ct.cue e.handle = some c → c.blockers = 0 → s.fc.p = some point →
          pathCheck s.cs.record.geometry s.fc.lastA s.fc.zones point (pointUm c.target) = some f →
          Answers (.queueTake p) s p .blocked (u8 1 ++ i32 (reportDistance f.distance2) ++ u8 f.zone.val) blocked) ∧
        (∀ c, s.ct.cue e.handle = some c → c.blockers = 0 → (∀ point, s.fc.p = some point → PathClear s point (pointUm c.target)) →
          ∃ u, Answers (.queueTake p) s p .ok [] u ∧ OnlyFlight s u ∧
            u.ct = { s.ct with queue := headAs .running, halted := false, dwell := none } ∧
            u.fc = { s.fc with
              mode := .cue,
              run := some { handle := e.handle, generation := e.generation, target := c.target, cruise := c.cruise,
                            tolerance := c.tolerance } }))

/-- QUEUE SKIP removes the head, QUEUE CLEAR every entry, and a run that is removed ends by cancellation -/
def Obligations.QueueSkipAndClearRemoveEntries : Prop :=
  ∀ (p : Port) (s : State),
    (Asked s p .queueSkip → queueGrants s.cs.record.matrix.queueSkip p = false → Refuses (.queueSkip p) s p .denied) ∧
    (Asked s p .queueSkip → queueGrants s.cs.record.matrix.queueSkip p = true → s.ct.queue = [] → Refuses (.queueSkip p) s p .empty) ∧
    (∀ e rest, Asked s p .queueSkip → queueGrants s.cs.record.matrix.queueSkip p = true → s.ct.queue = e :: rest →
      ∃ u, Answers (.queueSkip p) s p .ok (u8 e.handle.val ++ [e.generation] ++ u8 e.status.code ++ u8 rest.length) u ∧ OnlyFlight s u ∧
        u.ct.slots = s.ct.slots ∧
        u.ct.queue.map (fun e => (e.handle, e.generation, e.kind)) = rest.map (fun e => (e.handle, e.generation, e.kind)) ∧
        u.fc.v = s.fc.v ∧ u.fc.p = s.fc.p ∧
        (e.status = .running → u.ct.halted = true ∧ u.fc.run = none ∧ u.fc.mode ≠ .cue) ∧
        (e.status ≠ .running →
          (∀ e' rest', rest = e' :: rest' →
            s.fc.mode ≠ .hold ∨ s.fc.latch = true ∨ s.ct.halted = true ∨ e'.kind = .call ∨ s.ct.dwell ≠ none) →
          u = notify (.queueChanged rest.length rest.head? s.ct.halted) { s with ct := { s.ct with queue := rest } })) ∧
    (Asked s p .queueClear → queueGrants s.cs.record.matrix.queueClear p = false → Refuses (.queueClear p) s p .denied) ∧
    (Asked s p .queueClear → queueGrants s.cs.record.matrix.queueClear p = true →
      ∃ u, Answers (.queueClear p) s p .ok (u8 s.ct.queue.length) u ∧ OnlyFlight s u ∧
        u.ct = { s.ct with queue := [], halted := false, dwell := none } ∧ u.fc.v = s.fc.v ∧ u.fc.p = s.fc.p ∧
        (s.ct.queue = [] → s.ct.halted = false → s.ct.dwell = none → u = s) ∧
        ((∀ e ∈ s.ct.queue, e.status ≠ .running) → u.fc = s.fc) ∧
        ((∃ e ∈ s.ct.queue, e.status = .running) → u.fc.run = none ∧ u.fc.mode ≠ .cue))

/-- CT marks every cue afresh at each change report and each allowance report, with a notice for each whose state changes -/
def Obligations.CopiesMarkTheCues : Prop :=
  ∀ s : State, s.part.supply = true → s.part.resetLine = false →
    let marked (t : Ct) (u : State) (chan : Channels) : Prop :=
      let g := s.cs.record.geometry
      let count (c : Cue) : Nat := (t.zones.filter (fun z => decide (clearance g (pointUm c.target) t.allowance z.box < g.standoff))).length
      let changed (h : CueHandle) : Bool := (s.ct.cue h).any (fun c => decide (c.blockers = 0) != decide (count c = 0))
      u = { s with ct := u.ct, chan := u.chan } ∧ u.ct = { t with slots := u.ct.slots } ∧
      (∀ h : CueHandle, u.ct.slots[h] =
        { s.ct.slots[h] with cue := (s.ct.cue h).map (fun c => { c with blockers := count c }) }) ∧
      u.chan = { chan with
        notices := chan.notices ++ ((List.finRange 32).filter changed).map (fun h =>
          .cueChanged h s.ct.slots[h].generation .state
            (match s.ct.cue h with | some c => if count c = 0 then .ready else .blocked | none => .empty)
            (match s.ct.cue h with | some c => count c | none => 0)) }
    (∀ r rest, s.chan.ztToCt = r :: rest →
      ∃ u, exec .changeReportCt s = .next u ∧ marked { s.ct with zones := r.inForce } u { s.chan with ztToCt := rest }) ∧
    (∀ a rest, s.chan.fcToCt = a :: rest →
      ∃ u, exec .allowanceReport s = .next u ∧ marked { s.ct with allowance := a } u { s.chan with fcToCt := rest })

/-- Every step keeps the shot queue sound: its entries name cues that stand, and its head runs exactly in CUE -/
def Obligations.ShotQueueStaysSound : Prop :=
  Kept ShotQueueSound

/-- LAUNCH is refused in its order or enters LAUNCHING; the launch and settle timers expire into STOPPED -/
def Obligations.LaunchAndItsTimers : Prop :=
  (∀ (p : Port) (s : State), Asked s p .launch →
    let up := ∀ w : Winch, s.fc.links[w] = .up
    (s.part.estopLine = true → Refuses (.launch p) s p .estop) ∧
    (s.part.estopLine = false → s.fc.mode ≠ .parked → Refuses (.launch p) s p .mode) ∧
    (s.part.estopLine = false → s.fc.mode = .parked → s.cs.unconfigured = true → Refuses (.launch p) s p .notConfigured) ∧
    (s.part.estopLine = false → s.fc.mode = .parked → s.cs.unconfigured = false → ¬ up → Refuses (.launch p) s p .link) ∧
    (s.part.estopLine = false → s.fc.mode = .parked → s.cs.unconfigured = false → up →
      (∃ w : Winch, s.fc.driveStatus[w] ≠ some .tracking) →
      ∃ u, Answers (.launch p) s p .ok [] u ∧ OnlyFlight s u ∧ u.ct = s.ct ∧
        u.fc = { s.fc with mode := .launching, v := .zero, launchTimer := some (s.part.partTime + 500) } ∧
        (∀ (w : Winch) (point : Vec3), s.fc.p = some point →
          u.wlc[w].heldCommand = .release ∧ u.wlc[w].heldLength = cableTarget s.cs.record.geometry point w) ∧
        u.chan = { s.chan with
          fcToSu := s.chan.fcToSu ++ [.airborne true],
          notices := s.chan.notices ++ [.modeChanged .launching s.fc.latch s.fc.causes] })) ∧
  (∀ (due : PartTime) (s : State), s.part.supply = true → s.part.resetLine = false →
    let stopped (c : Cause) (u : State) : Prop :=
      OnlyFlight (atExpiry due s) u ∧ u.ct = { s.ct with halted := true } ∧ u.fc.mode = .stopped ∧ u.fc.v = .zero ∧ u.fc.p = s.fc.p ∧
        u.fc.latch = s.fc.latch ∧ u.fc.causes = s.fc.causes ++ [⟨c, false⟩] ∧
        (c = .launchFail → u.fc.launchTimer = none) ∧ (c = .parkFail → u.fc.settleTimer = none) ∧
        u.fc.zones = s.fc.zones ∧ u.fc.driveStatus = s.fc.driveStatus ∧ u.fc.links = s.fc.links ∧
        ∀ w : Winch, u.wlc[w].heldCommand = .brake
    (s.fc.launchTimer = some due → s.fc.mode = .launching → (∀ e ∈ s.fc.causes, e.cause ≠ .launchFail) →
      ∃ u, exec .launchTimerExpiry s = .next u ∧ stopped .launchFail u) ∧
    (s.fc.settleTimer = some due → s.fc.mode = .ret .settle → (∀ e ∈ s.fc.causes, e.cause ≠ .parkFail) →
      ∃ u, exec .settleTimerExpiry s = .next u ∧ stopped .parkFail u) ∧
    (s.fc.mode = .stopped → s.fc.launchTimer = some due → (∀ e ∈ s.fc.causes, e.cause ≠ .launchFail) →
      exec .launchTimerExpiry s = .next { atExpiry due s with
        fc := { s.fc with launchTimer := none, causes := s.fc.causes ++ [⟨.launchFail, false⟩] } }) ∧
    (s.fc.mode = .stopped → s.fc.settleTimer = some due → (∀ e ∈ s.fc.causes, e.cause ≠ .parkFail) →
      exec .settleTimerExpiry s = .next { atExpiry due s with
        fc := { s.fc with settleTimer := none, causes := s.fc.causes ++ [⟨.parkFail, false⟩] } }))

/-- JOG is refused by range and mode, or sets the demand and the deadman timer; the deadman expiry sets the demand to zero -/
def Obligations.JogSetsTheDemand : Prop :=
  (∀ (p : Port) (d : Vec3) (s : State), Asked s p (.jog d) →
    let inRange := -9000 ≤ d.x ∧ d.x ≤ 9000 ∧ -9000 ≤ d.y ∧ d.y ≤ 9000 ∧ -9000 ≤ d.z ∧ d.z ≤ 9000
    let taken : Fc := { s.fc with jogDemand := d, deadman := if d = .zero then none else some (s.part.partTime + 250) }
    (¬ inRange → Refuses (.jog p) s p .badField) ∧
    (inRange → s.fc.mode ≠ .hold → s.fc.mode ≠ .jog → s.fc.mode ≠ .cue → Refuses (.jog p) s p .mode) ∧
    (inRange → s.fc.mode = .hold → d = .zero → Answers (.jog p) s p .ok (u8 2) { s with fc := taken }) ∧
    (inRange → s.fc.mode = .hold → d ≠ .zero →
      ∃ u, Answers (.jog p) s p .ok (u8 3) u ∧ OnlyFlight s u ∧ u.ct = s.ct ∧ u.fc = { taken with mode := .jog } ∧
        u.chan = { s.chan with notices := s.chan.notices ++ [.modeChanged .jog s.fc.latch s.fc.causes] }) ∧
    (inRange → s.fc.mode = .jog → Answers (.jog p) s p .ok (u8 3) { s with fc := taken }) ∧
    (∀ e rest, inRange → s.fc.mode = .cue → s.ct.queue = e :: rest → e.status = .running →
      ∃ u, Answers (.jog p) s p .ok (u8 3) u ∧ OnlyFlight s u ∧
        u.ct = { s.ct with queue := { e with status := .aborted } :: rest, halted := true } ∧
        u.fc = { taken with mode := .jog, run := none } ∧
        u.chan = { s.chan with
          notices := s.chan.notices ++
            [.modeChanged .jog s.fc.latch s.fc.causes,
             .queueChanged s.ct.queue.length (some { e with status := .aborted }) true] })) ∧
  (∀ (due : PartTime) (s : State), s.part.supply = true → s.part.resetLine = false → s.fc.deadman = some due →
    exec .deadmanExpiry s = .next { atExpiry due s with fc := { s.fc with deadman := none, jogDemand := .zero } })

/-- HOLD and RETURN act by the mode in which they are taken -/
def Obligations.HoldAndReturnActByMode : Prop :=
  (∀ (p : Port) (s : State), Asked s p .hold →
    let noStart := ∀ e rest, s.ct.queue = e :: rest → s.ct.halted = true ∨ e.kind = .call ∨ s.ct.dwell ≠ none
    let atRest (u : State) := OnlyFlight s u ∧ u.fc.mode = .hold ∧ u.fc.latch = false ∧ u.fc.jogDemand = .zero ∧ u.fc.deadman = none ∧
      u.fc.run = none ∧ u.fc.legGoal = none ∧ u.fc.evict = none ∧ u.fc.v = s.fc.v ∧ u.fc.p = s.fc.p ∧ u.fc.zones = s.fc.zones
    (s.fc.hot = true → Refuses (.hold p) s p .mode) ∧
    (s.fc.mode ∈ [.parked, .launching, .evict, .stopped, .ret .settle] → Refuses (.hold p) s p .mode) ∧
    (s.fc.hot = false → s.fc.mode = .hold → s.fc.latch = false ∨ noStart →
      ∃ u, Answers (.hold p) s p .ok [] u ∧
        u = { s with fc := { s.fc with latch := false, returnBlocked := false }, chan := u.chan } ∧
        u.chan = if s.fc.returnBlocked = true then { s.chan with fcToSu := s.chan.fcToSu ++ [.clear condReturnBlocked] } else s.chan) ∧
    (s.fc.hot = false → s.fc.mode = .jog ∨ s.fc.mode.isLeg = true → s.fc.subject = none → noStart →
      ∃ u, Answers (.hold p) s p .ok [] u ∧ atRest u ∧ u.fc.returnBlocked = false ∧ u.ct = s.ct) ∧
    (∀ e rest, s.fc.hot = false → s.fc.mode = .cue → s.fc.subject = none → s.fc.latch = false → s.ct.queue = e :: rest →
      ∃ u, Answers (.hold p) s p .ok [] u ∧ atRest u ∧
        u.ct = { s.ct with queue := { e with status := .aborted } :: rest, halted := true })) ∧
  (∀ (p : Port) (s : State), Asked s p .returnDock →
    (s.fc.mode = .parked → Answers (.returnDock p) s p .ok (u8 0) s) ∧
    (∀ leg, s.fc.mode = .ret leg → Answers (.returnDock p) s p .ok (u8 6) s) ∧
    (s.fc.mode = .launching → Answers (.returnDock p) s p .ok (u8 1) { s with fc := { s.fc with latch := true } }) ∧
    (s.fc.mode = .stopped → Answers (.returnDock p) s p .ok (u8 7) { s with fc := { s.fc with latch := true } }) ∧
    (s.fc.mode = .evict → Answers (.returnDock p) s p .ok (u8 5) { s with fc := { s.fc with latch := true } }) ∧
    (∀ point, s.fc.mode = .hold ∨ s.fc.mode = .jog ∨ s.fc.mode = .cue → s.fc.p = some point →
      let goal : Vec3 := ⟨point.x, point.y, max point.z (1000 * s.cs.record.geometry.transitZ)⟩
      (PathClear s point goal →
        ∃ u, Answers (.returnDock p) s p .ok (u8 6) u ∧ OnlyFlight s u ∧ u.fc.mode = .ret .rise ∧ u.fc.legGoal = some goal ∧
          u.fc.latch = true ∧ u.fc.returnBlocked = false ∧ u.fc.v = s.fc.v ∧ u.fc.p = s.fc.p ∧
          (s.fc.mode = .jog → u.fc.jogDemand = .zero ∧ u.fc.deadman = none) ∧ (s.fc.mode ≠ .cue → u.ct = s.ct) ∧
          (s.fc.mode = .cue → u.fc.run = none ∧ u.ct = { s.ct with queue := setHead .aborted s.ct.queue, halted := true })) ∧
      (¬ PathClear s point goal → s.fc.subject = none ∨ s.fc.mode = .hold →
        ∃ u, Answers (.returnDock p) s p .ok (u8 2) u ∧ OnlyFlight s u ∧ u.fc.mode = .hold ∧ u.fc.returnBlocked = true ∧
          u.fc.latch = true ∧ u.fc.legGoal = none ∧ u.fc.v = s.fc.v ∧ u.fc.p = s.fc.p ∧
          (s.fc.mode ≠ .cue → u.ct = s.ct) ∧
          (s.fc.mode = .cue → u.fc.run = none ∧ u.ct = { s.ct with queue := setHead .aborted s.ct.queue, halted := true }))))

/-- FC copies the drive statuses, link states and load flags handed to it, and acts on the last TRACKING, the last BRAKED and the rise of hot -/
def Obligations.FlightTakesStatusesAndFlags : Prop :=
  ∀ s : State, s.part.supply = true → s.part.resetLine = false →
    (∀ w l rest, s.chan.wlcToFc = .linkState w l :: rest →
      exec .linkState s = .next { s with fc := { s.fc with links := put s.fc.links w l }, chan := { s.chan with wlcToFc := rest } }) ∧
    (∀ b rest, s.chan.lmToFc = .high b :: rest →
      exec .highFlag s = .next { s with fc := { s.fc with high := b }, chan := { s.chan with lmToFc := rest } }) ∧
    (∀ b rest, s.chan.lmToFc = .warm b :: rest →
      exec .warmFlag s = .next { s with fc := { s.fc with warm := b }, chan := { s.chan with lmToFc := rest } }) ∧
    (∀ b rest, s.chan.lmToFc = .hot b :: rest →
      (b = false ∨ s.fc.hot = true ∨ s.fc.mode = .parked ∨ (∃ leg, s.fc.mode = .ret leg) →
        exec .hotFlag s = .next { s with fc := { s.fc with hot := b }, chan := { s.chan with lmToFc := rest } }) ∧
      (b = true → s.fc.hot = false → s.fc.mode = .launching ∨ s.fc.mode = .stopped ∨ s.fc.mode = .evict →
        exec .hotFlag s = .next { s with fc := { s.fc with hot := true, latch := true }, chan := { s.chan with lmToFc := rest } }) ∧
      (∀ point, b = true → s.fc.hot = false → s.fc.mode = .hold → s.fc.p = some point →
        let goal : Vec3 := ⟨point.x, point.y, max point.z (1000 * s.cs.record.geometry.transitZ)⟩
        PathClear s point goal →
        ∃ u, exec .hotFlag s = .next u ∧ OnlyFlight s u ∧ u.ct = s.ct ∧
          u.fc = { s.fc with hot := true, latch := true, mode := .ret .rise, legGoal := some goal, returnBlocked := false })) ∧
    (∀ w d rest, s.chan.wlcToFc = .driveStatus w d :: rest →
      let statuses := put s.fc.driveStatus w (some d)
      let all (status : DriveStatus) := ∀ v : Winch, statuses[v] = some status
      (¬ (s.fc.mode = .launching ∧ all .tracking) → ¬ (s.fc.mode = .ret .settle ∧ all .braked) →
        exec .driveStatus s =
          .next { s with fc := { s.fc with driveStatus := statuses }, chan := { s.chan with wlcToFc := rest } }) ∧
      (s.fc.mode = .launching → all .tracking →
        ∃ u, exec .driveStatus s = .next u ∧ OnlyFlight s u ∧ u.fc.driveStatus = statuses ∧ u.fc.launchTimer = none ∧
          u.fc.mode ≠ .launching ∧ u.fc.v = s.fc.v ∧ u.fc.p = s.fc.p ∧
          (s.fc.subject = none → s.fc.latch = false → s.fc.hot = false →
            (∀ e rest, s.ct.queue = e :: rest → s.ct.halted = true ∨ e.kind = .call ∨ s.ct.dwell ≠ none) →
            u.fc.mode = .hold ∧ u.ct = s.ct)) ∧
      (s.fc.mode = .ret .settle → all .braked →
        ∃ u, exec .driveStatus s = .next u ∧ OnlyFlight s u ∧ u.ct = s.ct ∧
          u.fc = { s.fc with
            driveStatus := statuses, mode := .parked, settleTimer := none, v := .zero, latch := false, returnBlocked := false,
            pinned := false }))

/-- FC copies each change report and each summary, and evicts, cuts a run or retries a return by what it then holds -/
def Obligations.FlightTakesZoneReports : Prop :=
  let evictionEnds (s s1 u : State) : Prop :=
    (∃ rest, u.chan.notices = s.chan.notices ++ .modeChanged .hold s.fc.latch s.fc.causes :: rest) ∧
    (∀ e', chooseExit s1 = some (some e') → u.fc.mode = .evict ∧ u.fc.evict = some e' ∧ u.fc.evictBlocked = false) ∧
    ((∀ e', chooseExit s1 ≠ some (some e')) → u.fc.mode ≠ .evict ∧ u.fc.evict = none)
  (∀ (r : ChangeReport) (rest : List FcMsg) (s : State), s.part.supply = true → s.part.resetLine = false →
    s.chan.ztToFc = .change r :: rest →
    let fc : Fc := { s.fc with zones := r.inForce, nearCap := r.nearCap, subject := r.subject }
    let s1 : State := { s with fc := fc, chan := { s.chan with ztToFc := rest } }
    ∃ u, exec .changeReportFc s = .next u ∧ OnlyFlight s u ∧ u.fc.zones = r.inForce ∧ u.fc.nearCap = r.nearCap ∧
      u.fc.subject = r.subject ∧ u.fc.v = s.fc.v ∧ u.fc.p = s.fc.p ∧ u.fc.causes = s.fc.causes ∧
      (s.fc.mode ∈ [.parked, .launching, .stopped, .ret .settle] → r.subject ≠ none ∨ s.fc.evictBlocked = false → u = s1) ∧
      (s.fc.mode ∈ [.parked, .launching, .stopped, .ret .settle] → r.subject = none → u.fc = { fc with evictBlocked := false }) ∧
      (∀ e, s.fc.mode = .hold ∨ s.fc.mode = .jog ∨ s.fc.mode = .cue ∨ s.fc.mode.isLeg = true → chooseExit s1 = some (some e) →
        u.fc.mode = .evict ∧ u.fc.evict = some e ∧ u.fc.evictBlocked = false) ∧
      (∀ e, s.fc.mode = .evict → s.fc.evict = some e → r.subject = none → u.fc.evict = none ∧ u.fc.mode ≠ .evict) ∧
      (∀ e, s.fc.mode = .evict → s.fc.evict = some e → r.subject ≠ some e.subject → evictionEnds s s1 u) ∧
      (∀ e point, s.fc.mode = .evict → s.fc.evict = some e → r.subject = some e.subject → s.fc.p = some point →
        let shifted := ∃ c ∈ r.changes, c.handle = e.subject.handle ∧ c.kind = .shift
        let others := r.inForce.filter (fun z => decide (z.state = .armed) && decide (z.handle ≠ e.subject.handle))
        let clear := pathCheck s.cs.record.geometry s.fc.lastA others point e.target = none
        (¬ shifted → clear → u = s1) ∧
        (shifted ∨ ¬ clear →
          (∀ e', chooseExit s1 = some (some e') → u = { s1 with fc := { fc with evict := some e' } }) ∧
          ((∀ e', chooseExit s1 ≠ some (some e')) → u.fc.mode ≠ .evict ∧ u.fc.evict = none ∧ u.fc.evictBlocked = true))) ∧
      (∀ e rest' run point, s.fc.mode = .cue → r.subject = none → s.ct.queue = e :: rest' → s.fc.run = some run → s.fc.p = some point →
        s.fc.latch = false → s.fc.hot = false → s.fc.returnBlocked = false → ¬ PathClear s1 point (pointUm run.target) →
        u.ct = { s.ct with queue := { e with status := .cut } :: rest', halted := true } ∧ u.fc.run = none ∧ u.fc.mode = .hold) ∧
      (∀ run point, s.fc.mode = .cue → r.subject = none → s.fc.run = some run → s.fc.p = some point → PathClear s1 point (pointUm run.target) →
        u.ct = s.ct ∧ u.fc = { fc with evictBlocked := false }) ∧
      (∀ point, s.fc.mode = .hold → r.subject = none → r.relieving = true → s.fc.returnBlocked = true → s.fc.p = some point →
        let goal : Vec3 := ⟨point.x, point.y, max point.z (1000 * s.cs.record.geometry.transitZ)⟩
        PathClear s1 point goal → u.fc.mode = .ret .rise ∧ u.fc.legGoal = some goal ∧ u.fc.returnBlocked = false)) ∧
  (∀ (cap : Option Int) (n : Option ZoneName) (rest : List FcMsg) (s : State), s.part.supply = true → s.part.resetLine = false →
    s.chan.ztToFc = .summary cap n :: rest →
    let s1 : State := { s with fc := { s.fc with nearCap := cap, subject := n }, chan := { s.chan with ztToFc := rest } }
    ∃ u, exec .zoneSummary s = .next u ∧ OnlyFlight s u ∧ u.fc.nearCap = cap ∧ u.fc.subject = n ∧ u.fc.zones = s.fc.zones ∧
      u.fc.v = s.fc.v ∧ u.fc.p = s.fc.p ∧ u.fc.causes = s.fc.causes ∧
      (s.fc.mode ∈ [.parked, .launching, .stopped, .ret .settle] → n ≠ none ∨ s.fc.evictBlocked = false → u = s1) ∧
      (∀ e, s.fc.mode = .evict → s.fc.evict = some e → n = some e.subject → u = s1) ∧
      (∀ e, s.fc.mode = .evict → s.fc.evict = some e → n = none → u.fc.evict = none ∧ u.fc.mode ≠ .evict) ∧
      (∀ e, s.fc.mode = .evict → s.fc.evict = some e → n ≠ some e.subject → evictionEnds s s1 u) ∧
      (∀ e, s.fc.mode = .hold ∨ s.fc.mode = .jog ∨ s.fc.mode = .cue ∨ s.fc.mode.isLeg = true → n ≠ none → s.fc.evictBlocked = false →
        chooseExit s1 = some (some e) → u.fc.mode = .evict ∧ u.fc.evict = some e))

/-- No servo step moves P to where the envelope comes below STANDOFF of a zone that FC holds as ARMED, or nearer to a PENDING one within STANDOFF -/
def Obligations.NoStepEntersTheStandoffOfAnArmedZone : Prop :=
  ∀ s : State, s.part.supply = true → s.part.resetLine = false →
    ∃ u, exec .servoStep s = .next u ∧ (s.fc.p = none ↔ u.fc.p = none) ∧
      ∀ p q, s.fc.p = some p → u.fc.p = some q → q ≠ p →
        let g := s.cs.record.geometry
        ∀ z ∈ s.fc.zones,
          (z.state = .armed → g.standoff ≤ clearance g q s.lm.a z.box) ∧
          (z.state = .pending → min (clearance g p s.lm.a z.box) g.standoff ≤ clearance g q s.lm.a z.box)

/-- Each servo step moves V and P by its stages, hands on the position and a TARGET on each link, and applies the mode's test -/
def Obligations.ServoStepHandsOn : Prop :=
  ∀ s : State, s.part.supply = true → s.part.resetLine = false →
    let m := stepMotion s.cs.record s.fc s.lm.a
    MotionFollowsStages s m ∧
    ∃ u, exec .servoStep s = .next u ∧ u.zt = s.zt ∧ u.su = s.su ∧ u.cs = s.cs ∧ u.ct.slots = s.ct.slots ∧ u.ct.zones = s.ct.zones ∧
      u.ct.allowance = s.ct.allowance ∧ u.fc.servo = s.fc.servo + 5 ∧ u.fc.p = m.p ∧ u.fc.lastA = s.lm.a ∧
      u.fc.lastCap = m.cap.1 ∧ u.fc.zones = s.fc.zones ∧
      u.chan.fcToZt = s.chan.fcToZt ++ [{ p := m.p, a := s.lm.a }] ∧
      u.chan.fcToCt = (if s.lm.a = s.fc.allowanceSent then s.chan.fcToCt else s.chan.fcToCt ++ [s.lm.a]) ∧
      u.fc.allowanceSent = s.lm.a ∧ (m.refused = true → u.fc.v = .zero ∧ m.p = s.fc.p) ∧
      (∀ w : Winch, u.wlc[w].exchangeOpen = true ∧ u.wlc[w].seq = s.wlc[w].seq + 1 ∧
        ∃ t, u.wlc[w].last = some t ∧ t.seq = s.wlc[w].seq + 1 ∧
          t.command = (if s.fc.p = none then .brake else s.fc.mode.command) ∧
          t.length = (match m.p with
            | some q => cableTarget s.cs.record.geometry q w
            | none => (s.fc.lengths[w]).getD 0)) ∧
      u.fc.lastCapTerm = m.cap.2 ∧ (u.fc.v = m.v ∨ s.fc.mode = .ret .descend ∧ u.fc.v = .zero) ∧
      u.fc.maxSpeed =
        (if (u.fc.v.norm2 : Int) ≤ (1000 * s.cs.record.motion.maxSpeed) ^ 2 then s.cs.record.motion.maxSpeed else s.fc.maxSpeed) ∧
      (s.fc.mode ≠ .ret .descend → u.fc.pinned = (m.refused || s.fc.pinned && decide (m.p = s.fc.p))) ∧
      u.fc.lowPass =
        (match m.p with
         | some q =>
           let g := s.cs.record.geometry
           decide (q.z - 1000 * g.rB - s.lm.a < 1000 * g.cautionZ ∧ 1000 * g.pxLo ≤ q.x ∧ q.x ≤ 1000 * g.pxHi ∧ 1000 * g.pyLo ≤ q.y ∧
             q.y ≤ 1000 * g.pyHi)
         | none => false) ∧
      StageEightFollows s m u

/-- A raise of a stop cause joins the set and enters STOPPED; a clear releases its live entry; the ESTOP line and STOP act as raises and clears -/
def Obligations.StopCausesEnterStopped : Prop :=
  let raised (c : Cause) (s u : State) : Prop :=
    ((∃ e ∈ s.fc.causes, e.cause = c) →
      u = { s with
        fc := { s.fc with
          causes := s.fc.causes.map (fun e => if e.cause = c ∧ c.enteredLive = true then { e with live := true } else e) } }) ∧
    ((∀ e ∈ s.fc.causes, e.cause ≠ c) →
      u.fc.causes = s.fc.causes ++ [{ cause := c, live := c.enteredLive }] ∧
      (s.fc.mode = .stopped → u = { s with fc := { s.fc with causes := s.fc.causes ++ [{ cause := c, live := c.enteredLive }] } }) ∧
      (s.fc.mode ≠ .stopped → ModeRecordsSound s →
        OnlyFlight s u ∧ u.fc.mode = .stopped ∧ u.fc.v = .zero ∧ u.fc.p = s.fc.p ∧ u.fc.latch = s.fc.latch ∧ u.fc.run = none ∧
        u.fc.evict = none ∧ u.fc.legGoal = none ∧ u.fc.jogDemand = .zero ∧ u.fc.deadman = none ∧ 
        u.fc.launchTimer = s.fc.launchTimer.filter (reached s.part.partTime) ∧
        u.fc.settleTimer = s.fc.settleTimer.filter (reached s.part.partTime) ∧ u.fc.evictBlocked = false ∧ u.fc.returnBlocked = false ∧ u.fc.pinned = false ∧
        u.fc.zones = s.fc.zones ∧ u.fc.subject = s.fc.subject ∧ u.fc.driveStatus = s.fc.driveStatus ∧ u.fc.links = s.fc.links ∧
        u.fc.lengths = s.fc.lengths ∧
        u.ct = { s.ct with queue := if s.fc.mode = .cue then setHead .aborted s.ct.queue else s.ct.queue, halted := true } ∧
        ∀ w : Winch, u.wlc[w].heldCommand = .brake))
  let cleared (c : Cause) (s : State) : State :=
    { s with
      fc := { s.fc with
        causes := s.fc.causes.map (fun e => if e.cause = c ∧ c.enteredLive = true then { e with live := false } else e) } }
  (∀ (b : Block) (c : Cause) (rest : List FcMsg) (s : State), s.part.supply = true → s.part.resetLine = false →
    (s.chan.toFc b = .raise c :: rest → ∃ u, exec (.stopCauseRaise b) s = .next u ∧ raised c { s with chan := s.chan.dropFc b } u) ∧
    (s.chan.toFc b = .clear c :: rest → exec (.stopCauseClear b) s = .next (cleared c { s with chan := s.chan.dropFc b }))) ∧
  (∀ s : State, s.part.supply = true → s.part.resetLine = false →
    let line (level : Bool) : State := { s with part := { s.part with estopLine := level } }
    (s.part.estopLine = false →
      ∃ t u, raised .estop (line true) t ∧ exec .estopAsserted s = .next u ∧ u = { t with su := u.su, chan := u.chan } ∧
        u.su.conds[condEstop].live = true ∧ (LatchedCoversLive s → u.su.conds[condEstop].latched = true) ∧
        ∀ n : Fin 43, n ≠ condEstop → u.su.conds[n] = s.su.conds[n]) ∧
    (s.part.estopLine = true →
      ∃ u, exec .estopReleased s = .next u ∧ u = { cleared .estop (line false) with su := u.su, chan := u.chan } ∧
        u.su.conds[condEstop] = ⟨false, s.su.conds[condEstop].latched⟩ ∧
        ∀ n : Fin 43, n ≠ condEstop → u.su.conds[n] = s.su.conds[n]) ∧
    (s.part.estopLine = true → exec .estopAsserted s = .next s) ∧
    (s.part.estopLine = false → exec .estopReleased s = .next s)) ∧
  (∀ (p : Port) (s : State), Asked s p .stop →
    ∃ u, raised .stop s u ∧ Answers (.stop p) s p .ok (u8 u.fc.mode.code ++ counted causeBytes u.fc.causes) u)

/-- RESUME answers at the first check that fails, or sets the position by LOCATE, empties the set and enters PARKED or LAUNCHING -/
def Obligations.ResumeChecksAndCarriesOut : Prop :=
  ∀ (p : Port) (s : State), Asked s p .resume →
    let g := s.cs.record.geometry
    let tol := s.cs.record.following.followTol
    let up := ∀ w : Winch, s.fc.links[w] = .up
    let settled := s.fc.mode = .stopped ∧ s.part.estopLine = false ∧ ∀ e ∈ s.fc.causes, e.live = false
    (s.fc.mode ≠ .stopped → Refuses (.resume p) s p .mode) ∧
    (s.fc.mode = .stopped → s.part.estopLine = true → Refuses (.resume p) s p .estop) ∧
    (s.fc.mode = .stopped → s.part.estopLine = false → (∃ e ∈ s.fc.causes, e.live = true) →
      Answers (.resume p) s p .causeActive (counted causeBytes (s.fc.causes.filter CauseEntry.live)) s) ∧
    (settled → ¬ (up ∧ ∀ w : Winch, s.fc.lengths[w] ≠ none) → Refuses (.resume p) s p .link) ∧
    (∀ l0 l1 l2 l3, settled → up → s.fc.lengths[0] = some l0 → s.fc.lengths[1] = some l1 → s.fc.lengths[2] = some l2 →
      s.fc.lengths[3] = some l3 →
      (∀ test, locate g tol l0 l1 l2 l3 = .outOfRange test → Answers (.resume p) s p .outOfRange (u8 test) s) ∧
      (∀ a b, locate g tol l0 l1 l2 l3 = .inconsistent a b → Answers (.resume p) s p .inconsistent (i32 a ++ i32 b) s) ∧
      (∀ q, locate g tol l0 l1 l2 l3 = .at q →
        let deviation := fun point : Vec3 => u8 1 ++ i32 ((isqrt (point.dist2 q) / 1000 : Nat) : Int)
        let place := vec ⟨q.x.tdiv 1000, q.y.tdiv 1000, q.z.tdiv 1000⟩
        (∀ point, s.fc.p = some point → (1000 * tol) ^ 2 < (point.dist2 q : Int) →
          Answers (.resume p) s p .deviation (i32 ((isqrt (point.dist2 q) / 1000 : Nat) : Int) ++ place) s) ∧
        ((∀ point, s.fc.p = some point → (point.dist2 q : Int) ≤ (1000 * tol) ^ 2) →
          let docked := (q.dist2 (pointUm g.dock) : Int) ≤ (1000 * g.dockTol) ^ 2 ∧ ∀ w : Winch, s.fc.driveStatus[w] = some .braked
          let rest (mode : Nat) : List Byte := u8 mode ++ place ++ (match s.fc.p with | none => u8 0 | some point => deviation point)
          (docked →
            ∃ u, Answers (.resume p) s p .ok (rest 0) u ∧ OnlyFlight { s with zt := { s.zt with overflow := false } } u ∧ u.ct = s.ct ∧
              u.fc = { s.fc with
                p := some q, v := .zero, causes := [], mode := .parked, launchTimer := none, settleTimer := none, latch := false,
                returnBlocked := false,
                pinned := false }) ∧
          (¬ docked → (∃ w : Winch, s.fc.driveStatus[w] ≠ some .tracking) →
            ∃ u, Answers (.resume p) s p .ok (rest 1) u ∧ OnlyFlight { s with zt := { s.zt with overflow := false } } u ∧ u.ct = s.ct ∧
              u.fc = { s.fc with
                p := some q, v := .zero, causes := [], mode := .launching,
                launchTimer := some (s.part.partTime + 500), settleTimer := none }))))

/-- Every step keeps flight STOPPED exactly while the set holds a cause, and each mode's records, demand and timers to that mode -/
def Obligations.FlightStaysSound : Prop :=
  Kept (fun s => ShotQueueSound s ∧ StoppedExactlyWithCauses s ∧ CauseSetSound s ∧ ModeRecordsSound s)

/-- Every step keeps V zero in PARKED, LAUNCHING, SETTLE and STOPPED -/
def Obligations.VelocityIsZeroInTheStillModes : Prop :=
  Kept (fun s => RecordInRange s ∧ GeometrySound s ∧ ShotQueueSound s ∧ ModeRecordsSound s ∧ StillModesHaveZeroVelocity s)

/-- A STATE frame is counted as bad or stale, or closes the open exchange and hands on its status and measurements -/
def Obligations.StateFramesCloseExchanges : Prop :=
  ∀ (w : Winch) (s : State), s.part.supply = true → s.part.resetLine = false →
    let l := s.wlc[w]
    let sat (n : Nat) : Nat := if n < 65535 then n + 1 else n
    (l.rx ≠ [] → exec (.stateByteGap w) s =
      .next { s with wlc := put s.wlc w { l with rx := [], counters := { l.counters with badCheck := sat l.counters.badCheck } } }) ∧
    (l.rx = [] → exec (.stateByteGap w) s = .next s) ∧
    ∀ b1 b2 n2 n1 n0 r1 r0 tw th c1 c0 : Byte, l.rx = [] → l.query = none → l.windowClosed < 20 → b2.toNat < 128 →
      let f := [0x3C#8, b1, b2, n2, n1, n0, r1, r0, tw, th, c1, c0]
      let length := n2.toNat * 65536 + n1.toNat * 256 + n0.toNat
      let passes := (crc16 [b1, b2, n2, n1, n0, r1, r0, tw, th]).toNat = c1.toNat * 256 + c0.toNat ∧ length ≤ 400000 ∧
        b1.toNat / 16 % 4 ≠ 3
      let m : Measurement := { length := length, raw := r1.toNat * 256 + r0.toNat, winding := tw.toInt, heatsink := th.toInt }
      let matched (t : Target) := l.exchangeOpen = true ∧ l.last = some t ∧ t.seq = BitVec.ofNat 4 b1.toNat
      (¬ passes → exec (.stateFrame w f) s =
        .next { s with wlc := put s.wlc w { l with counters := { l.counters with badCheck := sat l.counters.badCheck } } }) ∧
      (passes → (∀ t, ¬ matched t) → exec (.stateFrame w f) s =
        .next { s with wlc := put s.wlc w { l with counters := { l.counters with staleSeq := sat l.counters.staleSeq } } }) ∧
      ∀ t, passes → matched t →
        ∃ u, exec (.stateFrame w f) s = .next u ∧ u.part = s.part ∧ u.cif = s.cif ∧ u.zt = s.zt ∧ u.ct = s.ct ∧ u.su = s.su ∧ u.cs = s.cs ∧
          (∀ v : Winch, v ≠ w → u.wlc[v] = s.wlc[v] ∧ u.lm.winches[v] = s.lm.winches[v]) ∧
          u.lm.a = (if ∃ v : Winch, v ≠ w ∧ s.wlc[v].exchangeOpen = true then s.lm.a
            else allowanceAfter s.cs.record.sag s.lm.a u.lm.aStar) ∧
          (b1.toNat / 16 % 4 = 0 → b2.toNat % 4 ≠ 3 → l.driveFault = false →
            u.wlc[w] = { l with
              exchangeOpen := false, windowClosed := l.windowClosed + 1, windowGood := l.windowGood + 1,
              counters := { l.counters with good := sat l.counters.good }, status := some (.ok, driveStatusOf (b2.toNat % 4)),
              meas := some m, rejectedRun := 0 } ∧
            u.fc = { s.fc with lengths := put s.fc.lengths w (some m.length) } ∧
            u.chan.wlcToFc = s.chan.wlcToFc ++ [.driveStatus w (driveStatusOf (b2.toNat % 4))] ∧
            u.lm.winches[w].meas =
              some { raw := m.raw, tension := tensionOf s.cs.record.winch[w] m.raw, winding := m.winding, heatsink := m.heatsink,
                     length := m.length, targetLength := t.length, targetCommand := t.command }) ∧
          (b1.toNat / 16 % 4 = 1 → s.cs.record.winch[w].policy = .miss →
            u.wlc[w] = { l with
              exchangeOpen := false, windowClosed := l.windowClosed + 1,
              counters := { l.counters with missed := sat l.counters.missed, degraded := sat l.counters.degraded } } ∧
            u.fc = s.fc ∧ u.lm.winches[w] = s.lm.winches[w] ∧ u.chan = s.chan) ∧
          (b1.toNat / 16 % 4 = 1 → s.cs.record.winch[w].policy = .keep → b2.toNat % 4 ≠ 3 → l.driveFault = false →
            u.wlc[w] = { l with
              exchangeOpen := false, windowClosed := l.windowClosed + 1, windowGood := l.windowGood + 1,
              counters := { l.counters with good := sat l.counters.good, degraded := sat l.counters.degraded },
              status := some (.degraded, driveStatusOf (b2.toNat % 4)), rejectedRun := 0 } ∧
            u.fc = s.fc ∧ u.lm.winches[w] = s.lm.winches[w])

/-- A window of 20 closures is judged by its table and handed on; a DRIVE QUERY is checked, held, and times out after 40 TARGETs -/
def Obligations.WindowsAreJudgedAndQueriesEnd : Prop :=
  (∀ (w : Winch) (s : State), s.part.supply = true → s.part.resetLine = false → 20 ≤ s.wlc[w].windowClosed →
    (∀ q, s.wlc[w].query = some q → s.wlc[w].exchangeOpen = true ∨ q.carried < 40) →
    let l := s.wlc[w]
    let good := s.cs.record.winch[w].wdMin ≤ l.windowGood
    let bad := if good then 0 else if l.state = .lost then 3 else if l.badWindows + 1 < 3 then l.badWindows + 1 else 3
    let state : LinkState :=
      if good then .up else if l.state = .lost then .lost else if l.badWindows + 1 < 3 then .degraded else .lost
    let fails := l.state ≠ .lost ∧ state = .lost
    let toSu : List SuMsg :=
      if state = l.state then [] else
        (match state with | .degraded => [.raise (condLinkDegraded w)] | .lost => [.raise (condLinkLost w)] | _ => []) ++
        (match l.state with | .degraded => [.clear (condLinkDegraded w)] | .lost => [.clear (condLinkLost w)] | _ => [])
    let toFc : List FcMsg :=
      if state = l.state then [] else
        [.linkState w state] ++ (if state = .lost then [.raise (.linkLost w)] else []) ++
        (if l.state = .lost then [.clear (.linkLost w)] else [])
    exec (.windowEnd w) s =
      .next { s with
        wlc := put s.wlc w
          { l with windowClosed := 0, windowGood := 0, badWindows := bad, state := state, query := if fails then none else l.query },
        cif := (match l.query with | some q => if fails then (respond q.port .link [] s).cif else s.cif | none => s.cif),
        chan := { s.chan with wlcToSu := s.chan.wlcToSu ++ toSu, wlcToFc := s.chan.wlcToFc ++ toFc } }) ∧
  (∀ (w : Winch) (q : QuerySlot) (s : State), s.part.supply = true → s.part.resetLine = false →
    s.wlc[w].query = some q → s.wlc[w].exchangeOpen = false → 40 ≤ q.carried →
    exec (.queryTimeout w) s =
      .next (respond q.port .timeout [] { s with wlc := put s.wlc w { s.wlc[w] with query := none } })) ∧
  (∀ (p : Port) (wb code : Byte) (args : List Byte) (s : State), Asked s p (.driveQuery wb code args) →
    (wb.toNat = 0 ∨ 4 < wb.toNat → Refuses (.driveQuery p) s p .badField) ∧
    ∀ w : Winch, wb.toNat = w.val + 1 → s.wlc[w].windowClosed < 20 →
      (∀ q, s.wlc[w].query = some q → s.wlc[w].exchangeOpen = true ∨ q.carried < 40) →
      (15 < code.toNat → Refuses (.driveQuery p) s p .badField) ∧
      (code.toNat ≤ 15 → s.wlc[w].query ≠ none → Refuses (.driveQuery p) s p .queryBusy) ∧
      (code.toNat ≤ 15 → s.wlc[w].query = none → s.wlc[w].state ≠ .up → Refuses (.driveQuery p) s p .link) ∧
      (∀ i, code.toNat ≤ 15 → s.wlc[w].query = none → s.wlc[w].state = .up → (s.cif.port p).inProgress = some i →
        exec (.driveQuery p) s =
          .next { s with
            wlc := put s.wlc w
              { s.wlc[w] with
                query := some { id := s.wlc[w].nextQueryId, code := code.setWidth 4, args := args, carried := 0, port := p, tag := i.tag },
                nextQueryId := s.wlc[w].nextQueryId + 1 },
            cif := s.cif.setPort p { s.cif.port p with inProgress := some { i with stage := .inFlight } } }))

/-- COUNTERS answers a snapshot of the five counters of a winch and clears them where asked, and touches nothing else of the link -/
def Obligations.CountersAreReadAndCleared : Prop :=
  (∀ (p : Port) (tag w c : Byte), checkRequest p { kind := 0x52#8, tag := tag, body := [w, c] } = .inl (.counters w c)) ∧
  ∀ (p : Port) (wb cb : Byte) (s : State), Asked s p (.counters wb cb) →
    (wb.toNat = 0 ∨ 4 < wb.toNat → Refuses (.counters p) s p .badField) ∧
    ∀ w : Winch, wb.toNat = w.val + 1 →
      let k := s.wlc[w].counters
      let values := u8 (w.val + 1) ++ (u16 k.good ++ u16 k.badCheck ++ u16 k.missed ++ u16 k.staleSeq ++ u16 k.degraded)
      (cb = 0 → Answers (.counters p) s p .ok (values ++ flag false) s) ∧
      (cb = 1 → Answers (.counters p) s p .ok (values ++ flag true)
        { s with
          wlc := put s.wlc w
            { s.wlc[w] with counters := { good := 0, badCheck := 0, missed := 0, staleSeq := 0, degraded := 0 } } })

/-- Every step keeps each link's counts in their ranges, its bad-window count with its state, and its open exchange on its last TARGET -/
def Obligations.LinksStaySound : Prop :=
  Kept LinksWithinBounds ∧ Kept OpenExchangesAwaitTheLastTarget

/-- A closing frame moves its link's status, run, fault and query and its winch's loads, flags and A*; the slack and follow timers expire into conditions -/
def Obligations.LoadTimersAndRules : Prop :=
  (∀ (w : Winch) (b1 b2 n2 n1 n0 r1 r0 tw th : Byte) (answer : Option (Byte × List Byte)) (t : Target) (s : State),
    s.part.supply = true → s.part.resetLine = false →
    let l := s.wlc[w]
    let cfg := s.cs.record.winch[w]
    let code := b1.toNat / 16 % 4
    let completion : Completion := if code = 0 then .ok else if code = 1 then .degraded else .rejected
    let drive := driveStatusOf (b2.toNat % 4)
    let measured := ¬ (code = 1 ∧ cfg.policy = .keep)
    let m : Measurement :=
      { length := n2.toNat * 65536 + n1.toNat * 256 + n0.toNat, raw := r1.toNat * 256 + r0.toNat, winding := tw.toInt, heatsink := th.toInt }
    l.rx = [] → l.windowClosed < 20 → l.exchangeOpen = true → l.last = some t → t.seq = BitVec.ofNat 4 b1.toNat →
    m.length ≤ 400000 → code ≠ 3 → ¬ (code = 1 ∧ cfg.policy = .miss) → (answer.isSome = true ↔ 128 ≤ b2.toNat) →
    (∀ a data, answer = some (a, data) → a.toNat % 4 ≠ 3 ∧ data.length ≤ 8) → LoadFlagsFollow s →
    let sat (n : Nat) : Nat := if n < 65535 then n + 1 else n
    let run := if completion = .rejected then min 3 (l.rejectedRun + 1) else 0
    let fault := if l.driveFault = true then !(decide (completion = .ok) && decide (drive ≠ .fault)) else decide (3 ≤ run ∨ drive = .fault)
    let ended : Option (QuerySlot × Byte × List Byte) :=
      match l.query, answer with
      | some q, some (a, data) => if BitVec.ofNat 3 (a.toNat / 16) = q.id ∧ a.toNat % 4 ≠ 0 then some (q, a, data) else none
      | _, _ => none
    let set : LoadSet :=
      { raw := m.raw, tension := tensionOf cfg m.raw, winding := m.winding, heatsink := m.heatsink, length := m.length,
        targetLength := t.length, targetCommand := t.command }
    let old := s.lm.winches[w]
    let loads : LmWinch :=
      { comparatorsAfter cfg s.part.partTime old set with follow := followAfter s.cs.record.following s.part.partTime old.follow set }
    ∃ u, exec (.stateFrame w (stateBytes [b1, b2, n2, n1, n0, r1, r0, tw, th] answer)) s = .next u ∧
      u = { s with
        wlc := put s.wlc w
          { l with
            exchangeOpen := false, windowClosed := l.windowClosed + 1, windowGood := l.windowGood + 1,
            counters := { l.counters with
              good := sat l.counters.good, degraded := if code = 1 then sat l.counters.degraded else l.counters.degraded },
            status := some (completion, drive), meas := if measured then some m else l.meas, rejectedRun := run, driveFault := fault,
            query := if ended = none then l.query else none },
        fc := if measured then { s.fc with lengths := put s.fc.lengths w (some m.length) } else s.fc,
        lm := u.lm,
        cif :=
          match ended with
          | some (q, a, data) =>
            (respond q.port .ok (u8 (w.val + 1) ++ u8 (a.toNat / 16 % 8) ++ u8 (a.toNat % 4) ++ (u8 data.length ++ data)) s).cif
          | none => s.cif,
        chan := { s.chan with
          wlcToFc := s.chan.wlcToFc ++ [.driveStatus w drive] ++
            atChange l.driveFault fault (.raise (.driveFault w)) (.clear (.driveFault w)),
          wlcToSu := s.chan.wlcToSu ++ atChange l.driveFault fault (.raise (condDriveFault w)) (.clear (condDriveFault w)),
          lmToSu := s.chan.lmToSu ++ loadsToSu w old u.lm.winches[w], lmToFc := s.chan.lmToFc ++ loadsToFc w s.lm u.lm } } ∧
      u.lm.winches = (if measured then put s.lm.winches w loads else s.lm.winches) ∧ LoadFlagsFollow u ∧
      u.lm.aStar = (if measured then allowanceTarget s.cs.record.sag u.lm else s.lm.aStar) ∧
      u.lm.a = (if ∃ v : Winch, v ≠ w ∧ s.wlc[v].exchangeOpen = true then s.lm.a
        else allowanceAfter s.cs.record.sag s.lm.a u.lm.aStar)) ∧
  (∀ (w : Winch) (due : PartTime) (s : State), s.part.supply = true → s.part.resetLine = false →
    let l := s.lm.winches[w]
    let handed (l' : LmWinch) (n : Fin 43) (c : Cause) : State :=
      { atExpiry due s with
        lm := { s.lm with winches := put s.lm.winches w l' },
        chan := { s.chan with lmToSu := s.chan.lmToSu ++ [.raise n], lmToFc := s.chan.lmToFc ++ [.raise c] } }
    (l.slack = .timing due → exec (.slackTimerExpiry w) s = .next (handed { l with slack := .live } (condSlack w) (.slack w))) ∧
    (l.follow = .timing due → exec (.followTimerExpiry w) s = .next (handed { l with follow := .live } (condFollow w) (.follow w)))) ∧
  (∀ (c : WinchCfg) (raw : Nat), c.offset = 0 → 0 ≤ c.scale →
    tensionOf c raw = min 20000 (((raw * c.scale.toNat / (32768 * 2 ^ c.shift) : Nat) : Int))) ∧
  (∀ (c : WinchCfg) (raw : Nat),
    tensionOf c raw = max 0 (min 20000 ((raw * c.scale + 32768 * c.offset).tdiv (32768 * 2 ^ c.shift)))) ∧
  (∀ limit hyst v : Int, 0 ≤ hyst →
    (comparator false limit hyst v = true ↔ limit < v) ∧ (comparator true limit hyst v = false ↔ v ≤ limit - hyst)) ∧
  (∀ (c : SagCfg) (l : Lm),
    let held (v : Winch) (t : Int) := ∃ q, l.winches[v].meas = some q ∧ q.tension = t
    (c.sagDiv = .off ∨ (∀ v t, ¬ held v t) → allowanceTarget c l = 0) ∧
    (∀ (v : Winch) (t k : Int), held v t → (∀ v' t', held v' t' → t ≤ t') →
      (c.sagDiv, k) ∈ [(SagDiv.n5, 200), (SagDiv.n10, 100), (SagDiv.n20, 50), (SagDiv.n40, 25)] →
      allowanceTarget c l = max 0 (min 2000000 ((c.tRef - t) * k)))) ∧
  (∀ (c : SagCfg) (a target : Int), 0 ≤ c.riseRate → 0 ≤ c.fallRate →
    allowanceAfter c a target =
      if c.direct = true then target
      else if a < target then min target (a + c.riseRate * 5)
      else if target < a then max target (a - c.fallRate * 5)
      else a)

/-- SU takes raises, clears and the airborne indication, and drives the wanted pattern at once or at the period's end -/
def Obligations.ConditionsFollowRaisesAndClears : Prop :=
  let at' (before after : Su) (now : PartTime) : Prop :=
    if after.wanted ≠ before.driven ∧ (after.wanted = .steady ∨ before.driven = .off ∨ before.driven = .steady) then
      after.driven = after.wanted ∧ after.periodStart = now
    else after.driven = before.driven ∧ after.periodStart = before.periodStart
  (∀ (b : Block) (n : Fin 43) (rest : List SuMsg) (s : State), s.part.supply = true → s.part.resetLine = false →
    (s.chan.toSu b = .raise n :: rest →
      (s.su.conds[n].live = true → exec (.conditionRaiseAtSu b) s = .next { s with chan := s.chan.dropSu b }) ∧
      (s.su.conds[n].live = false → ∃ u, exec (.conditionRaiseAtSu b) s = .next u ∧
        u = { s with
          su := u.su,
          chan := { s.chan.dropSu b with notices := (s.chan.dropSu b).notices ++ [.conditionRaised n ⟨true, true⟩] } } ∧
        u.su.conds = put s.su.conds n ⟨true, true⟩ ∧ u.su.airborne = s.su.airborne ∧ at' s.su u.su s.part.partTime)) ∧
    (s.chan.toSu b = .clear n :: rest →
      (s.su.conds[n].live = false → exec (.conditionClearAtSu b) s = .next { s with chan := s.chan.dropSu b }) ∧
      (s.su.conds[n].live = true → ∃ u, exec (.conditionClearAtSu b) s = .next u ∧
        u = { s with
          su := u.su,
          chan := { s.chan.dropSu b with
            notices := (s.chan.dropSu b).notices ++ [.conditionCleared n ⟨false, s.su.conds[n].latched⟩] } } ∧
        u.su.conds = put s.su.conds n ⟨false, s.su.conds[n].latched⟩ ∧ u.su.airborne = s.su.airborne ∧
        at' s.su u.su s.part.partTime))) ∧
  (∀ (set : Bool) (rest : List SuMsg) (s : State), s.part.supply = true → s.part.resetLine = false → s.chan.fcToSu = .airborne set :: rest →
    ∃ u, exec .airborneIndication s = .next u ∧ u = { s with su := u.su, chan := { s.chan with fcToSu := rest } } ∧
      u.su.conds = s.su.conds ∧ u.su.airborne = set ∧
      (s.su.airborne = set → u.su = s.su) ∧ (s.su.airborne ≠ set → at' s.su u.su s.part.partTime)) ∧
  (∀ s : State, s.part.supply = true → s.part.resetLine = false →
    ∀ period : Nat, (s.su.driven = .blip ∧ period = 2000 ∨ s.su.driven = .slow ∧ period = 1000 ∨ s.su.driven = .fast ∧ period = 250) →
      let due := s.su.periodStart + BitVec.ofNat 32 period
      exec .periodBoundary s = .next { atExpiry due s with su := { s.su with driven := s.su.wanted, periodStart := due } }) ∧
  (∀ u : Su,
    let live (v : Severity) := ∃ n : Fin 43, u.conds[n].live = true ∧ severityOf n = v
    (live .stop → u.wanted = .steady) ∧ (¬ live .stop → live .warning → u.wanted = .fast) ∧
    (¬ live .stop → ¬ live .warning → live .caution → u.wanted = .slow) ∧
    (¬ live .stop → ¬ live .warning → ¬ live .caution → u.wanted = if u.airborne = true then .blip else .off))

/-- ACKNOWLEDGE clears the latched flag of every named condition that is not live, counts them, and changes nothing else -/
def Obligations.AcknowledgeClearsLatchedFlags : Prop :=
  (∀ (p : Port) (tag n : Byte), checkRequest p { kind := 0x59#8, tag := tag, body := [n] } = .inl (.acknowledge n)) ∧
  ∀ (p : Port) (number : Byte) (s : State), Asked s p (.acknowledge number) →
    let named (n : Fin 43) : Bool := decide (number = 0xFF#8) || decide (number.toNat = n.val)
    let freed := (List.finRange 43).filter (fun n => named n && s.su.conds[n].latched && !s.su.conds[n].live)
    let kept := (List.finRange 43).filter (fun n => named n && s.su.conds[n].latched && s.su.conds[n].live)
    (43 ≤ number.toNat → number ≠ 0xFF#8 → Refuses (.acknowledge p) s p .badField) ∧
    (number.toNat < 43 ∨ number = 0xFF#8 →
      ∃ u, Answers (.acknowledge p) s p .ok (u8 freed.length ++ u8 kept.length) u ∧
        u = { s with su := { s.su with conds := u.su.conds } } ∧
        ∀ n : Fin 43, u.su.conds[n] = if named n = true ∧ s.su.conds[n].live = false then ⟨false, false⟩ else s.su.conds[n])

/-- FLIGHT READ, WINCH READ, CONDITIONS READ and CONFIG READ answer with what their owners hold and change nothing but counters that are cleared -/
def Obligations.OwnersReportWhatTheyHold : Prop :=
  (∀ (p : Port) (s : State), Asked s p .flightRead →
    let f := s.fc
    let towardZero (v : Vec3) := i32 (v.x.tdiv 1000) ++ i32 (v.y.tdiv 1000) ++ i32 (v.z.tdiv 1000)
    let inMm (v : Vec3) := i32 (reportMm v.x) ++ i32 (reportMm v.y) ++ i32 (reportMm v.z)
    let remaining (due : PartTime) := i32 (remainingMs due s.part.partTime)
    Answers (.flightRead p) s p .ok
      (u8 f.mode.code ++ optional u8 f.mode.subState ++ (u8 f.causes.length ++ f.causes.flatMap causeBytes) ++
        flag f.p.isSome ++ optional towardZero f.p ++ towardZero f.v ++ i32 ((isqrt f.v.norm2 / 1000 : Nat) : Int) ++
        i32 (f.lastA / 1000) ++ i32 f.lastCap ++ u8 f.lastCapTerm.code ++ i32 s.cs.record.motion.maxSpeed ++ i32 f.maxSpeed ++
        flag f.latch ++ flag f.high ++ flag f.warm ++ flag f.hot ++
        (i32 f.jogDemand.x ++ i32 f.jogDemand.y ++ i32 f.jogDemand.z) ++ optional remaining f.deadman ++
        optional (fun r => u8 r.handle.val ++ [r.generation] ++ vec r.target ++ i32 r.cruise ++ i32 r.tolerance) f.run ++
        optional (fun e => u8 e.subject.handle.val ++ [e.subject.generation] ++ u8 e.dir.code ++ inMm e.target ++ i32 (reportMm e.length))
          f.evict ++
        optional inMm f.legGoal ++
        optional remaining (if f.mode = .stopped then none else f.launchTimer.or f.settleTimer) ++
        (optional (fun d => u8 d.code) f.driveStatus[0] ++ optional (fun d => u8 d.code) f.driveStatus[1] ++
          optional (fun d => u8 d.code) f.driveStatus[2] ++ optional (fun d => u8 d.code) f.driveStatus[3])) s) ∧
  (∀ (p : Port) (wb : Byte) (s : State), Asked s p (.winchRead wb) →
    (wb.toNat = 0 ∨ 4 < wb.toNat → Refuses (.winchRead p) s p .badField) ∧
    ∀ w : Winch, wb.toNat = w.val + 1 → s.wlc[w].windowClosed < 20 →
      (∀ q, s.wlc[w].query = some q → s.wlc[w].exchangeOpen = true ∨ q.carried < 40) →
      let l := s.wlc[w]
      let m := s.lm.winches[w]
      let timed : TimedComparator → List Byte := fun c =>
        match c with
        | .clear => u8 0 ++ u8 0
        | .timing due => u8 1 ++ (u8 1 ++ i32 (remainingMs due s.part.partTime))
        | .live => u8 2 ++ u8 0
      ∃ least, Answers (.winchRead p) s p .ok
        (u8 l.state.code ++ u8 l.badWindows ++ u8 l.windowClosed ++ u8 l.windowGood ++ u8 s.cs.record.winch[w].wdMin ++
          u8 s.cs.record.winch[w].policy.code ++
          optional (fun t => u8 t.seq.toNat ++ i32 t.length ++ u8 t.command.code ++ flag l.exchangeOpen) l.last ++
          optional (fun q => u8 q.1.code ++ u8 q.2.code) l.status ++
          optional (fun q => i32 q.length ++ u16 q.raw ++ i8 q.winding ++ i8 q.heatsink) l.meas ++
          u8 l.rejectedRun ++ flag l.driveFault ++ optional (fun q => u8 q.id.toNat ++ u8 q.code.toNat ++ u8 q.carried) l.query ++
          u8 l.nextQueryId.toNat ++
          optional (fun q => u16 q.raw ++ i32 q.tension) m.meas ++ optional (fun q => i8 q.winding ++ i8 q.heatsink) m.meas ++
          flag m.overload ++ flag m.tensionHigh ++ flag m.motorWarm ++ flag m.motorHot ++ timed m.slack ++ timed m.follow ++
          optional (fun q => i32 ((q.length - q.targetLength).natAbs : Int) ++ u8 q.targetCommand.code) m.meas ++
          i32 (s.lm.a / 1000) ++ i32 (s.lm.aStar / 1000) ++ least) s ∧
        let held (v : Winch) (t : Int) := ∃ q, s.lm.winches[v].meas = some q ∧ q.tension = t
        ((∀ v t, ¬ held v t) → least = u8 0) ∧
        ∀ v t, held v t → (∀ v' t', held v' t' → t ≤ t') → (∀ v', held v' t → v ≤ v') → least = u8 1 ++ (i32 t ++ u8 (v.val + 1))) ∧
  (∀ (p : Port) (cb : Byte) (s : State), Asked s p (.conditionsRead cb) →
    let content :=
      (s.su.conds.toList.flatMap (fun c => flag c.live ++ flag c.latched)) ++
        (match s.su.highest with | none => u8 0 | some v => u8 1 ++ u8 v.code) ++ u8 s.su.driven.code ++ u8 s.su.wanted.code ++
        flag s.su.airborne ++ u16 s.cif.pilot.badFrames ++ u16 s.cif.director.badFrames ++ u16 s.cif.safety.badFrames
    (cb = 1 → p ≠ .safety → Refuses (.conditionsRead p) s p .denied) ∧
    (cb = 0 → Answers (.conditionsRead p) s p .ok content s) ∧
    (cb = 1 → p = .safety →
      Answers (.conditionsRead p) s p .ok content
        { s with
          cif := { s.cif with
            pilot := { s.cif.pilot with badFrames := 0 }, director := { s.cif.director with badFrames := 0 },
            safety := { s.cif.safety with badFrames := 0 } } })) ∧
  (∀ (p : Port) (group : Byte) (winch : Option Byte) (s : State), Asked s p (.configRead group winch) →
    let status := flag s.cs.unconfigured ++
      (match s.cs.save with | .idle => u8 0 ++ u8 0 | .saving _ ends => u8 1 ++ u8 1 ++ i32 (remainingMs ends s.part.partTime)) ++
      (match s.cs.lastSave with | none => u8 0 | some t => u8 1 ++ word32 t)
    (8 ≤ group.toNat → Refuses (.configRead p) s p .badField) ∧
    (∀ wb, group = 3 → winch = some wb → wb.toNat = 0 ∨ 4 < wb.toNat → Refuses (.configRead p) s p .badField) ∧
    (∀ (w : Winch) (wb : Byte), group = 3 → winch = some wb → wb.toNat = w.val + 1 →
      Answers (.configRead p) s p .ok (winchCfgBytes s.cs.record.winch[w] ++ status) s) ∧
    (group = 0 → Answers (.configRead p) s p .ok (geometryBytes s.cs.record.geometry ++ status) s) ∧
    (group = 1 → Answers (.configRead p) s p .ok (motionBytes s.cs.record.motion ++ status) s) ∧
    (group = 2 → Answers (.configRead p) s p .ok (followingBytes s.cs.record.following ++ status) s) ∧
    (group = 4 → Answers (.configRead p) s p .ok (sagBytes s.cs.record.sag ++ status) s) ∧
    (group = 5 → Answers (.configRead p) s p .ok (matrixBytes s.cs.record.matrix ++ status) s) ∧
    (group = 6 → Answers (.configRead p) s p .ok (i32 s.cs.record.baud.rate ++ status) s) ∧
    (group = 7 → Answers (.configRead p) s p .ok
      ((u8 s.cs.storedFixed.length ++ s.cs.storedFixed.flatMap storedBytes) ++ status) s))

/-- CONFIG WRITE is refused in its order, or replaces the fields of one group and acts on the new values, which CONFIG READ's bytes spell -/
def Obligations.ConfigWritesReplaceAGroup : Prop :=
  (∀ (p : Port) (group : Byte) (bs : List Byte) (s : State), Asked s p (.configWrite group bs) →
    let idle := s.cs.save = .idle
    let geometryTaken := s.fc.mode = .parked ∨ s.fc.mode = .stopped ∧ s.fc.p = none
    (s.cs.save ≠ .idle → Refuses (.configWrite p) s p .saving) ∧
    (idle → 7 ≤ group.toNat → Refuses (.configWrite p) s p .badField) ∧
    (idle → group = 0 → ¬ geometryTaken → Refuses (.configWrite p) s p .mode) ∧
    (idle → group = 0 → geometryTaken → (∀ g, readGeometry bs = some g → geometryConsistent g (zoneBoxes s) (cueTargets s) = false) →
      Refuses (.configWrite p) s p .badField) ∧
    (idle → group = 1 → (∀ c, readMotion bs = some c → motionInRange c = false) → Refuses (.configWrite p) s p .badField) ∧
    (idle → group = 2 → (∀ c, readFollowing bs = some c → followingInRange c = false) → Refuses (.configWrite p) s p .badField) ∧
    (idle → group = 3 →
      (∀ n fields, bs = n :: fields → 1 ≤ n.toNat → n.toNat ≤ 4 →
        ∀ c, readWinch fields = some c → winchInRange c = false ∨ winchConsistent c = false) → Refuses (.configWrite p) s p .badField) ∧
    (idle → group = 4 → (∀ c, readSag bs = some c → sagInRange c = false) → Refuses (.configWrite p) s p .badField) ∧
    (idle → group = 5 → readMatrix bs = none → Refuses (.configWrite p) s p .badField) ∧
    (idle → group = 6 → (∀ b : Baud, bs ≠ i32 b.rate) → Refuses (.configWrite p) s p .badField) ∧
    (∃ result u, Answers (.configWrite p) s p result [] u ∧ (result ≠ .ok → u = s) ∧ u.cs = { s.cs with record := u.cs.record }) ∧
    (∀ m, idle → group = 5 → readMatrix bs = some m →
      Answers (.configWrite p) s p .ok [] { s with cs := { s.cs with record := { s.cs.record with matrix := m } } }) ∧
    (∀ b : Baud, idle → group = 6 → bs = i32 b.rate →
      Answers (.configWrite p) s p .ok [] { s with cs := { s.cs with record := { s.cs.record with baud := b } } }) ∧
    (∀ c, idle → group = 1 → readMotion bs = some c → motionInRange c = true →
      Answers (.configWrite p) s p .ok []
        { s with
          cs := { s.cs with record := { s.cs.record with motion := c } },
          fc := if c.maxSpeed ≠ s.cs.record.motion.maxSpeed ∧ (s.fc.v.norm2 : Int) ≤ (1000 * c.maxSpeed) ^ 2
            then { s.fc with maxSpeed := c.maxSpeed } else s.fc }) ∧
    (∀ c, idle → group = 2 → readFollowing bs = some c → followingInRange c = true →
      let checked (old : LmWinch) : LmWinch :=
        match old.meas with
        | some m => { old with follow := followAfter c s.part.partTime old.follow m }
        | none => old
      let released := (List.finRange 4).filter (fun w : Winch =>
        decide (s.lm.winches[w].follow = .live) && decide ((checked s.lm.winches[w]).follow ≠ .live))
      Answers (.configWrite p) s p .ok []
        { s with
          cs := { s.cs with record := { s.cs.record with following := c } },
          lm := { s.lm with winches := s.lm.winches.map checked },
          chan := { s.chan with
            lmToSu := s.chan.lmToSu ++ released.map (fun w => .clear (condFollow w)),
            lmToFc := s.chan.lmToFc ++ released.map (fun w => .clear (.follow w)) } }) ∧
    (∀ (w : Winch) (n : Byte) (fields : List Byte) (c : WinchCfg), idle → group = 3 → bs = n :: fields →
      n.toNat = w.val + 1 → readWinch fields = some c → winchInRange c = true → winchConsistent c = true → s.wlc[w].windowClosed < 20 →
      (∀ q, s.wlc[w].query = some q → s.wlc[w].exchangeOpen = true ∨ q.carried < 40) → LoadFlagsFollow s →
      let old := s.lm.winches[w]
      ∃ u, Answers (.configWrite p) s p .ok [] u ∧ LoadFlagsFollow u ∧
        u = { s with
          cs := { s.cs with record := { s.cs.record with winch := put s.cs.record.winch w c } },
          lm := { s.lm with winches := u.lm.winches, high := u.lm.high, warm := u.lm.warm, hot := u.lm.hot, aStar := u.lm.aStar },
          chan := { s.chan with
            lmToSu := s.chan.lmToSu ++ loadsToSu w old u.lm.winches[w], lmToFc := s.chan.lmToFc ++ loadsToFc w s.lm u.lm } } ∧
        u.lm.aStar = allowanceTarget s.cs.record.sag u.lm ∧
        u.lm.winches = put s.lm.winches w
          (match old.meas with
           | some m => comparatorsAfter c s.part.partTime old { m with tension := tensionOf c m.raw }
           | none => old)) ∧
    (∀ c, idle → group = 4 → readSag bs = some c → sagInRange c = true →
      Answers (.configWrite p) s p .ok []
        { s with
          cs := { s.cs with record := { s.cs.record with sag := c } }, lm := { s.lm with aStar := allowanceTarget c s.lm } }) ∧
    (∀ g, idle → group = 0 → geometryTaken → readGeometry bs = some g → geometryConsistent g (zoneBoxes s) (cueTargets s) = true →
      let g' := s.cs.record.geometry
      let s1 : State := { s with cs := { s.cs with record := { s.cs.record with geometry := g } } }
      let kept := g.standoff = g'.standoff ∧ g.rH = g'.rH ∧ g.rB = g'.rB ∧ g.rT = g'.rT
      (kept → Answers (.configWrite p) s p .ok [] s1) ∧
      (¬ kept →
        let count (c : Cue) : Nat :=
          (s.ct.zones.filter (fun z => decide (clearance g (pointUm c.target) s.ct.allowance z.box < g.standoff))).length
        let changed (h : CueHandle) : Bool := (s.ct.cue h).any (fun c => decide (c.blockers = 0) != decide (count c = 0))
        let notices := ((List.finRange 32).filter changed).map (fun h => Notice.cueChanged h s.ct.slots[h].generation .state
          (match s.ct.cue h with | some c => if count c = 0 then .ready else .blocked | none => .empty)
          (match s.ct.cue h with | some c => count c | none => 0))
        let ct : Ct :=
          { s.ct with slots := s.ct.slots.map (fun q => { q with cue := q.cue.map (fun c => { c with blockers := count c }) }) }
        (s.zt.report.p = none →
          Answers (.configWrite p) s p .ok [] { s1 with ct := ct, chan := { s.chan with notices := s.chan.notices ++ notices } }) ∧
        (s.zt.report.p ≠ none →
          ∃ v, exec .positionReport { s1 with chan := { s.chan with fcToZt := [s.zt.report] } } = .next v ∧
            Answers (.configWrite p) s p .ok []
              { s1 with ct := ct, zt := v.zt, chan := { v.chan with fcToZt := s.chan.fcToZt, notices := v.chan.notices ++ notices } })))) ∧
  (∀ c : MotionCfg, motionInRange c = true ↔
    (1000 ≤ c.maxSpeed ∧ c.maxSpeed ≤ 9000) ∧ (500 ≤ c.accel ∧ c.accel ≤ 4000) ∧ (500 ≤ c.decel ∧ c.decel ≤ 6000) ∧
      (200 ≤ c.evictSpeed ∧ c.evictSpeed ≤ 3000) ∧ (500 ≤ c.returnSpeed ∧ c.returnSpeed ≤ 4000) ∧
      (200 ≤ c.reducedHigh ∧ c.reducedHigh ≤ 6000) ∧ (200 ≤ c.reducedWarm ∧ c.reducedWarm ≤ 6000)) ∧
  (∀ c : FollowingCfg, followingInRange c = true ↔
    (50 ≤ c.followTol ∧ c.followTol ≤ 1000) ∧ (100 ≤ c.followTime ∧ c.followTime ≤ 2000)) ∧
  (∀ c : WinchCfg, winchInRange c = true ↔
    (0 ≤ c.scale ∧ c.scale ≤ 65535) ∧ (-32768 ≤ c.offset ∧ c.offset ≤ 32767) ∧ c.shift ≤ 7 ∧ (100 ≤ c.slackLim ∧ c.slackLim ≤ 5000) ∧
      (1000 ≤ c.highLim ∧ c.highLim ≤ 19000) ∧ (2000 ≤ c.overLim ∧ c.overLim ≤ 19500) ∧ (0 ≤ c.tensHyst ∧ c.tensHyst ≤ 1000) ∧
      (50 ≤ c.slackTime ∧ c.slackTime ≤ 1000) ∧ (40 ≤ c.warmLim ∧ c.warmLim ≤ 150) ∧ (50 ≤ c.hotLim ∧ c.hotLim ≤ 160) ∧
      (0 ≤ c.tempHyst ∧ c.tempHyst ≤ 15) ∧ (1 ≤ c.wdMin ∧ c.wdMin ≤ 20)) ∧
  (∀ c : WinchCfg, winchConsistent c = true ↔
    c.slackLim + c.tensHyst < c.highLim - c.tensHyst ∧ c.highLim < c.overLim ∧ c.warmLim < c.hotLim) ∧
  (∀ c : SagCfg, sagInRange c = true ↔
    (0 ≤ c.tRef ∧ c.tRef ≤ 20000) ∧ (10 ≤ c.riseRate ∧ c.riseRate ≤ 2000) ∧ (5 ≤ c.fallRate ∧ c.fallRate ≤ 500)) ∧
  (∀ g boxes targets, geometryConsistent g boxes targets = true → readGeometry (geometryBytes g) = some g) ∧
  (∀ c : MotionCfg, motionInRange c = true → readMotion (motionBytes c) = some c) ∧
  (∀ c : FollowingCfg, followingInRange c = true → readFollowing (followingBytes c) = some c) ∧
  (∀ c : WinchCfg, winchInRange c = true → readWinch (winchCfgBytes c) = some c) ∧
  (∀ c : SagCfg, sagInRange c = true → readSag (sagBytes c) = some c) ∧
  (∀ m : MatrixCfg, readMatrix (matrixBytes m) = some m) ∧
  (∀ bs : List Byte,
    (∀ g, readGeometry bs = some g → bs = geometryBytes g) ∧ (∀ c, readMotion bs = some c → bs = motionBytes c) ∧
    (∀ c, readFollowing bs = some c → bs = followingBytes c) ∧ (∀ c, readWinch bs = some c → bs = winchCfgBytes c) ∧
    (∀ c, readSag bs = some c → bs = sagBytes c) ∧ (∀ m, readMatrix bs = some m → bs = matrixBytes m))

/-- CONFIG SAVE is refused in its order or begins writing its snapshot; the save's end stores it and configures the part -/
def Obligations.SavesStoreTheSnapshot : Prop :=
  (∀ (p : Port) (s : State), Asked s p .configSave →
    let fixed := (List.finRange 48).filterMap (fun h => (s.zt.zone h).bind (fun z => if z.cls = .fixed then some z else none))
    let fit := ∀ z ∈ fixed, guardAndCapFit s.cs.record.geometry s.cs.record.motion z.guard z.cap = true
    (s.cs.save ≠ .idle → Refuses (.configSave p) s p .saving) ∧
    (s.cs.save = .idle → s.fc.mode ≠ .parked → Refuses (.configSave p) s p .mode) ∧
    (s.cs.save = .idle → s.fc.mode = .parked → ¬ fit → Refuses (.configSave p) s p .badField) ∧
    (s.cs.save = .idle → s.fc.mode = .parked → fit →
      let image : Image :=
        { record := s.cs.record,
          zones := fixed.map (fun z => { box := z.box, guard := z.guard, hyst := z.hyst, cap := z.cap, group := z.group }) }
      Answers (.configSave p) s p .ok (u8 fixed.length)
        { s with cs := { s.cs with save := .saving image (s.part.partTime + 300), flash := .incomplete } })) ∧
  (∀ (image : Image) (ends : PartTime) (s : State), s.part.supply = true → s.part.resetLine = false → s.cs.save = .saving image ends →
    ∃ u, exec .saveEnd s = .next u ∧
      u = { atExpiry ends s with
        chan := if s.cs.unconfigured = true then { s.chan with csToSu := s.chan.csToSu ++ [.clear condConfigDefault] } else s.chan,
        cs := { s.cs with
          save := .idle, lastSave := some u.part.partTime, flash := .holds image, storedFixed := image.zones, unconfigured := false } }) ∧
  (∀ s : State, s.cs.flash = .erased ∨ s.cs.flash = .incomplete → s.part.resetLine = false →
    ∃ u, exec .powerOn s = .next u ∧ u.cs.record = .default ∧ u.cs.storedFixed = [] ∧ u.cs.unconfigured = true ∧
      u.su.conds[condConfigDefault] = ⟨true, true⟩)

/-- Every step keeps the load flags, the allowance, the latched flags, the driven pattern and the working record sound -/
def Obligations.SupervisionStaysSound : Prop :=
  Kept LoadFlagsFollow ∧ Kept LatchedCoversLive ∧ Kept SteadyAtOnce ∧ Kept (fun s => RecordInRange s ∧ AllowanceInRange s) ∧
    Kept GeometrySound

/-- The state after reset has every property that the steps keep -/
def Obligations.ResetStateIsSound : Prop :=
  ZoneTableSound State.reset ∧ SubjectIsTheBlockedHead State.reset ∧ FixedCountBounded State.reset ∧ ZoneFieldsFit State.reset ∧
  ShotQueueSound State.reset ∧ StoppedExactlyWithCauses State.reset ∧ CauseSetSound State.reset ∧ ModeRecordsSound State.reset ∧
  StillModesHaveZeroVelocity State.reset ∧ LinksWithinBounds State.reset ∧ OpenExchangesAwaitTheLastTarget State.reset ∧
  LoadFlagsFollow State.reset ∧ AllowanceInRange State.reset ∧ LatchedCoversLive State.reset ∧ SteadyAtOnce State.reset ∧
  RecordInRange State.reset ∧ GeometrySound State.reset ∧ PortsWithinBounds State.reset ∧ ReceiversSound State.reset
end

