-- ==== Sys2Proof/Laws/State.lean ====
section
/-! SUPPORT. One lemma per field per named update of State: the fields that each shared update leaves as they are. -/

namespace Sys2Proof.Machine

set_option Elab.async false

/-! ## Table entries -/

@[simp] theorem put_same {α : Type} {n : Nat} (v : Vector α n) (i : Fin n) (x : α) : (put v i x)[i] = x := by simp [put]

theorem put_other {α : Type} {n : Nat} (v : Vector α n) (i j : Fin n) (x : α) (h : j ≠ i) : (put v i x)[j] = v[j] := by
  have : (i : Nat) ≠ j := fun e => h (Fin.ext e.symm)
  simp [put, this]

/-! ## Updates -/

@[simp] theorem notify_part (n : Notice) (s : State) : (notify n s).part = s.part := rfl
@[simp] theorem notify_cif (n : Notice) (s : State) : (notify n s).cif = s.cif := rfl
@[simp] theorem notify_zt (n : Notice) (s : State) : (notify n s).zt = s.zt := rfl
@[simp] theorem notify_ct (n : Notice) (s : State) : (notify n s).ct = s.ct := rfl
@[simp] theorem notify_fc (n : Notice) (s : State) : (notify n s).fc = s.fc := rfl
@[simp] theorem notify_wlc (n : Notice) (s : State) : (notify n s).wlc = s.wlc := rfl
@[simp] theorem notify_lm (n : Notice) (s : State) : (notify n s).lm = s.lm := rfl
@[simp] theorem notify_su (n : Notice) (s : State) : (notify n s).su = s.su := rfl
@[simp] theorem notify_cs (n : Notice) (s : State) : (notify n s).cs = s.cs := rfl
@[simp] theorem notify_pending (n : Notice) (s : State) : (notify n s).pending = s.pending := rfl

@[simp] theorem notifyAll_part (ns : List Notice) (s : State) : (notifyAll ns s).part = s.part := rfl
@[simp] theorem notifyAll_cif (ns : List Notice) (s : State) : (notifyAll ns s).cif = s.cif := rfl
@[simp] theorem notifyAll_zt (ns : List Notice) (s : State) : (notifyAll ns s).zt = s.zt := rfl
@[simp] theorem notifyAll_ct (ns : List Notice) (s : State) : (notifyAll ns s).ct = s.ct := rfl
@[simp] theorem notifyAll_fc (ns : List Notice) (s : State) : (notifyAll ns s).fc = s.fc := rfl
@[simp] theorem notifyAll_wlc (ns : List Notice) (s : State) : (notifyAll ns s).wlc = s.wlc := rfl
@[simp] theorem notifyAll_lm (ns : List Notice) (s : State) : (notifyAll ns s).lm = s.lm := rfl
@[simp] theorem notifyAll_su (ns : List Notice) (s : State) : (notifyAll ns s).su = s.su := rfl
@[simp] theorem notifyAll_cs (ns : List Notice) (s : State) : (notifyAll ns s).cs = s.cs := rfl
@[simp] theorem notifyAll_pending (ns : List Notice) (s : State) : (notifyAll ns s).pending = s.pending := rfl

@[simp] theorem tellFc_part (b : Block) (m : FcMsg) (s : State) : (tellFc b m s).part = s.part := by cases b <;> rfl
@[simp] theorem tellFc_cif (b : Block) (m : FcMsg) (s : State) : (tellFc b m s).cif = s.cif := by cases b <;> rfl
@[simp] theorem tellFc_zt (b : Block) (m : FcMsg) (s : State) : (tellFc b m s).zt = s.zt := by cases b <;> rfl
@[simp] theorem tellFc_ct (b : Block) (m : FcMsg) (s : State) : (tellFc b m s).ct = s.ct := by cases b <;> rfl
@[simp] theorem tellFc_fc (b : Block) (m : FcMsg) (s : State) : (tellFc b m s).fc = s.fc := by cases b <;> rfl
@[simp] theorem tellFc_wlc (b : Block) (m : FcMsg) (s : State) : (tellFc b m s).wlc = s.wlc := by cases b <;> rfl
@[simp] theorem tellFc_lm (b : Block) (m : FcMsg) (s : State) : (tellFc b m s).lm = s.lm := by cases b <;> rfl
@[simp] theorem tellFc_su (b : Block) (m : FcMsg) (s : State) : (tellFc b m s).su = s.su := by cases b <;> rfl
@[simp] theorem tellFc_cs (b : Block) (m : FcMsg) (s : State) : (tellFc b m s).cs = s.cs := by cases b <;> rfl
@[simp] theorem tellFc_pending (b : Block) (m : FcMsg) (s : State) : (tellFc b m s).pending = s.pending := by cases b <;> rfl

@[simp] theorem tellSu_part (b : Block) (m : SuMsg) (s : State) : (tellSu b m s).part = s.part := by cases b <;> rfl
@[simp] theorem tellSu_cif (b : Block) (m : SuMsg) (s : State) : (tellSu b m s).cif = s.cif := by cases b <;> rfl
@[simp] theorem tellSu_zt (b : Block) (m : SuMsg) (s : State) : (tellSu b m s).zt = s.zt := by cases b <;> rfl
@[simp] theorem tellSu_ct (b : Block) (m : SuMsg) (s : State) : (tellSu b m s).ct = s.ct := by cases b <;> rfl
@[simp] theorem tellSu_fc (b : Block) (m : SuMsg) (s : State) : (tellSu b m s).fc = s.fc := by cases b <;> rfl
@[simp] theorem tellSu_wlc (b : Block) (m : SuMsg) (s : State) : (tellSu b m s).wlc = s.wlc := by cases b <;> rfl
@[simp] theorem tellSu_lm (b : Block) (m : SuMsg) (s : State) : (tellSu b m s).lm = s.lm := by cases b <;> rfl
@[simp] theorem tellSu_su (b : Block) (m : SuMsg) (s : State) : (tellSu b m s).su = s.su := by cases b <;> rfl
@[simp] theorem tellSu_cs (b : Block) (m : SuMsg) (s : State) : (tellSu b m s).cs = s.cs := by cases b <;> rfl
@[simp] theorem tellSu_pending (b : Block) (m : SuMsg) (s : State) : (tellSu b m s).pending = s.pending := by cases b <;> rfl

@[simp] theorem withPort_part (p : Port) (f : PortState → PortState) (s : State) : (withPort p f s).part = s.part := rfl
@[simp] theorem withPort_zt (p : Port) (f : PortState → PortState) (s : State) : (withPort p f s).zt = s.zt := rfl
@[simp] theorem withPort_ct (p : Port) (f : PortState → PortState) (s : State) : (withPort p f s).ct = s.ct := rfl
@[simp] theorem withPort_fc (p : Port) (f : PortState → PortState) (s : State) : (withPort p f s).fc = s.fc := rfl
@[simp] theorem withPort_wlc (p : Port) (f : PortState → PortState) (s : State) : (withPort p f s).wlc = s.wlc := rfl
@[simp] theorem withPort_lm (p : Port) (f : PortState → PortState) (s : State) : (withPort p f s).lm = s.lm := rfl
@[simp] theorem withPort_su (p : Port) (f : PortState → PortState) (s : State) : (withPort p f s).su = s.su := rfl
@[simp] theorem withPort_cs (p : Port) (f : PortState → PortState) (s : State) : (withPort p f s).cs = s.cs := rfl
@[simp] theorem withPort_chan (p : Port) (f : PortState → PortState) (s : State) : (withPort p f s).chan = s.chan := rfl
@[simp] theorem withPort_pending (p : Port) (f : PortState → PortState) (s : State) : (withPort p f s).pending = s.pending := rfl

@[simp] theorem respond_part (p : Port) (r : Result) (c : List Byte) (s : State) : (respond p r c s).part = s.part := rfl
@[simp] theorem respond_zt (p : Port) (r : Result) (c : List Byte) (s : State) : (respond p r c s).zt = s.zt := rfl
@[simp] theorem respond_ct (p : Port) (r : Result) (c : List Byte) (s : State) : (respond p r c s).ct = s.ct := rfl
@[simp] theorem respond_fc (p : Port) (r : Result) (c : List Byte) (s : State) : (respond p r c s).fc = s.fc := rfl
@[simp] theorem respond_wlc (p : Port) (r : Result) (c : List Byte) (s : State) : (respond p r c s).wlc = s.wlc := rfl
@[simp] theorem respond_lm (p : Port) (r : Result) (c : List Byte) (s : State) : (respond p r c s).lm = s.lm := rfl
@[simp] theorem respond_su (p : Port) (r : Result) (c : List Byte) (s : State) : (respond p r c s).su = s.su := rfl
@[simp] theorem respond_cs (p : Port) (r : Result) (c : List Byte) (s : State) : (respond p r c s).cs = s.cs := rfl
@[simp] theorem respond_chan (p : Port) (r : Result) (c : List Byte) (s : State) : (respond p r c s).chan = s.chan := rfl
@[simp] theorem respond_pending (p : Port) (r : Result) (c : List Byte) (s : State) : (respond p r c s).pending = s.pending := rfl

@[simp] theorem atExpiry_cif (due : PartTime) (s : State) : (atExpiry due s).cif = s.cif := rfl
@[simp] theorem atExpiry_zt (due : PartTime) (s : State) : (atExpiry due s).zt = s.zt := rfl
@[simp] theorem atExpiry_ct (due : PartTime) (s : State) : (atExpiry due s).ct = s.ct := rfl
@[simp] theorem atExpiry_fc (due : PartTime) (s : State) : (atExpiry due s).fc = s.fc := rfl
@[simp] theorem atExpiry_wlc (due : PartTime) (s : State) : (atExpiry due s).wlc = s.wlc := rfl
@[simp] theorem atExpiry_lm (due : PartTime) (s : State) : (atExpiry due s).lm = s.lm := rfl
@[simp] theorem atExpiry_su (due : PartTime) (s : State) : (atExpiry due s).su = s.su := rfl
@[simp] theorem atExpiry_cs (due : PartTime) (s : State) : (atExpiry due s).cs = s.cs := rfl
@[simp] theorem atExpiry_chan (due : PartTime) (s : State) : (atExpiry due s).chan = s.chan := rfl
@[simp] theorem atExpiry_pending (due : PartTime) (s : State) : (atExpiry due s).pending = s.pending := rfl

@[simp] theorem setLink_part (w : Winch) (l : Link) (s : State) : (setLink w l s).part = s.part := rfl
@[simp] theorem setLink_cif (w : Winch) (l : Link) (s : State) : (setLink w l s).cif = s.cif := rfl
@[simp] theorem setLink_zt (w : Winch) (l : Link) (s : State) : (setLink w l s).zt = s.zt := rfl
@[simp] theorem setLink_ct (w : Winch) (l : Link) (s : State) : (setLink w l s).ct = s.ct := rfl
@[simp] theorem setLink_fc (w : Winch) (l : Link) (s : State) : (setLink w l s).fc = s.fc := rfl
@[simp] theorem setLink_lm (w : Winch) (l : Link) (s : State) : (setLink w l s).lm = s.lm := rfl
@[simp] theorem setLink_su (w : Winch) (l : Link) (s : State) : (setLink w l s).su = s.su := rfl
@[simp] theorem setLink_cs (w : Winch) (l : Link) (s : State) : (setLink w l s).cs = s.cs := rfl
@[simp] theorem setLink_chan (w : Winch) (l : Link) (s : State) : (setLink w l s).chan = s.chan := rfl
@[simp] theorem setLink_pending (w : Winch) (l : Link) (s : State) : (setLink w l s).pending = s.pending := rfl

@[simp] theorem setLm_part (w : Winch) (m : LmWinch) (s : State) : (setLm w m s).part = s.part := rfl
@[simp] theorem setLm_cif (w : Winch) (m : LmWinch) (s : State) : (setLm w m s).cif = s.cif := rfl
@[simp] theorem setLm_zt (w : Winch) (m : LmWinch) (s : State) : (setLm w m s).zt = s.zt := rfl
@[simp] theorem setLm_ct (w : Winch) (m : LmWinch) (s : State) : (setLm w m s).ct = s.ct := rfl
@[simp] theorem setLm_fc (w : Winch) (m : LmWinch) (s : State) : (setLm w m s).fc = s.fc := rfl
@[simp] theorem setLm_wlc (w : Winch) (m : LmWinch) (s : State) : (setLm w m s).wlc = s.wlc := rfl
@[simp] theorem setLm_su (w : Winch) (m : LmWinch) (s : State) : (setLm w m s).su = s.su := rfl
@[simp] theorem setLm_cs (w : Winch) (m : LmWinch) (s : State) : (setLm w m s).cs = s.cs := rfl
@[simp] theorem setLm_chan (w : Winch) (m : LmWinch) (s : State) : (setLm w m s).chan = s.chan := rfl
@[simp] theorem setLm_pending (w : Winch) (m : LmWinch) (s : State) : (setLm w m s).pending = s.pending := rfl

@[simp] theorem setRecord_part (r : Record) (s : State) : (setRecord r s).part = s.part := rfl
@[simp] theorem setRecord_cif (r : Record) (s : State) : (setRecord r s).cif = s.cif := rfl
@[simp] theorem setRecord_zt (r : Record) (s : State) : (setRecord r s).zt = s.zt := rfl
@[simp] theorem setRecord_ct (r : Record) (s : State) : (setRecord r s).ct = s.ct := rfl
@[simp] theorem setRecord_fc (r : Record) (s : State) : (setRecord r s).fc = s.fc := rfl
@[simp] theorem setRecord_wlc (r : Record) (s : State) : (setRecord r s).wlc = s.wlc := rfl
@[simp] theorem setRecord_lm (r : Record) (s : State) : (setRecord r s).lm = s.lm := rfl
@[simp] theorem setRecord_su (r : Record) (s : State) : (setRecord r s).su = s.su := rfl
@[simp] theorem setRecord_chan (r : Record) (s : State) : (setRecord r s).chan = s.chan := rfl
@[simp] theorem setRecord_pending (r : Record) (s : State) : (setRecord r s).pending = s.pending := rfl

@[simp] theorem setEstopLine_cif (b : Bool) (s : State) : (setEstopLine b s).cif = s.cif := rfl
@[simp] theorem setEstopLine_zt (b : Bool) (s : State) : (setEstopLine b s).zt = s.zt := rfl
@[simp] theorem setEstopLine_ct (b : Bool) (s : State) : (setEstopLine b s).ct = s.ct := rfl
@[simp] theorem setEstopLine_fc (b : Bool) (s : State) : (setEstopLine b s).fc = s.fc := rfl
@[simp] theorem setEstopLine_wlc (b : Bool) (s : State) : (setEstopLine b s).wlc = s.wlc := rfl
@[simp] theorem setEstopLine_lm (b : Bool) (s : State) : (setEstopLine b s).lm = s.lm := rfl
@[simp] theorem setEstopLine_su (b : Bool) (s : State) : (setEstopLine b s).su = s.su := rfl
@[simp] theorem setEstopLine_cs (b : Bool) (s : State) : (setEstopLine b s).cs = s.cs := rfl
@[simp] theorem setEstopLine_chan (b : Bool) (s : State) : (setEstopLine b s).chan = s.chan := rfl
@[simp] theorem setEstopLine_pending (b : Bool) (s : State) : (setEstopLine b s).pending = s.pending := rfl

@[simp] theorem handTargets_part (s : State) : (handTargets s).part = s.part := rfl
@[simp] theorem handTargets_cif (s : State) : (handTargets s).cif = s.cif := rfl
@[simp] theorem handTargets_zt (s : State) : (handTargets s).zt = s.zt := rfl
@[simp] theorem handTargets_ct (s : State) : (handTargets s).ct = s.ct := rfl
@[simp] theorem handTargets_fc (s : State) : (handTargets s).fc = s.fc := rfl
@[simp] theorem handTargets_lm (s : State) : (handTargets s).lm = s.lm := rfl
@[simp] theorem handTargets_su (s : State) : (handTargets s).su = s.su := rfl
@[simp] theorem handTargets_cs (s : State) : (handTargets s).cs = s.cs := rfl
@[simp] theorem handTargets_chan (s : State) : (handTargets s).chan = s.chan := rfl
@[simp] theorem handTargets_pending (s : State) : (handTargets s).pending = s.pending := rfl

@[simp] theorem setLatch_part (s : State) : (setLatch s).part = s.part := rfl
@[simp] theorem setLatch_cif (s : State) : (setLatch s).cif = s.cif := rfl
@[simp] theorem setLatch_zt (s : State) : (setLatch s).zt = s.zt := rfl
@[simp] theorem setLatch_ct (s : State) : (setLatch s).ct = s.ct := rfl
@[simp] theorem setLatch_wlc (s : State) : (setLatch s).wlc = s.wlc := rfl
@[simp] theorem setLatch_lm (s : State) : (setLatch s).lm = s.lm := rfl
@[simp] theorem setLatch_su (s : State) : (setLatch s).su = s.su := rfl
@[simp] theorem setLatch_cs (s : State) : (setLatch s).cs = s.cs := rfl
@[simp] theorem setLatch_chan (s : State) : (setLatch s).chan = s.chan := rfl
@[simp] theorem setLatch_pending (s : State) : (setLatch s).pending = s.pending := rfl

@[simp] theorem haltHead_part (e : EntryStatus) (s : State) : (haltHead e s).part = s.part := rfl
@[simp] theorem haltHead_cif (e : EntryStatus) (s : State) : (haltHead e s).cif = s.cif := rfl
@[simp] theorem haltHead_zt (e : EntryStatus) (s : State) : (haltHead e s).zt = s.zt := rfl
@[simp] theorem haltHead_fc (e : EntryStatus) (s : State) : (haltHead e s).fc = s.fc := rfl
@[simp] theorem haltHead_wlc (e : EntryStatus) (s : State) : (haltHead e s).wlc = s.wlc := rfl
@[simp] theorem haltHead_lm (e : EntryStatus) (s : State) : (haltHead e s).lm = s.lm := rfl
@[simp] theorem haltHead_su (e : EntryStatus) (s : State) : (haltHead e s).su = s.su := rfl
@[simp] theorem haltHead_cs (e : EntryStatus) (s : State) : (haltHead e s).cs = s.cs := rfl
@[simp] theorem haltHead_chan (e : EntryStatus) (s : State) : (haltHead e s).chan = s.chan := rfl
@[simp] theorem haltHead_pending (e : EntryStatus) (s : State) : (haltHead e s).pending = s.pending := rfl

@[simp] theorem completeRound_part (s : State) : (completeRound s).part = s.part := rfl
@[simp] theorem completeRound_cif (s : State) : (completeRound s).cif = s.cif := rfl
@[simp] theorem completeRound_zt (s : State) : (completeRound s).zt = s.zt := rfl
@[simp] theorem completeRound_ct (s : State) : (completeRound s).ct = s.ct := rfl
@[simp] theorem completeRound_fc (s : State) : (completeRound s).fc = s.fc := rfl
@[simp] theorem completeRound_wlc (s : State) : (completeRound s).wlc = s.wlc := rfl
@[simp] theorem completeRound_su (s : State) : (completeRound s).su = s.su := rfl
@[simp] theorem completeRound_cs (s : State) : (completeRound s).cs = s.cs := rfl
@[simp] theorem completeRound_chan (s : State) : (completeRound s).chan = s.chan := rfl
@[simp] theorem completeRound_pending (s : State) : (completeRound s).pending = s.pending := rfl

@[simp] theorem recomputeTarget_part (s : State) : (recomputeTarget s).part = s.part := rfl
@[simp] theorem recomputeTarget_cif (s : State) : (recomputeTarget s).cif = s.cif := rfl
@[simp] theorem recomputeTarget_zt (s : State) : (recomputeTarget s).zt = s.zt := rfl
@[simp] theorem recomputeTarget_ct (s : State) : (recomputeTarget s).ct = s.ct := rfl
@[simp] theorem recomputeTarget_fc (s : State) : (recomputeTarget s).fc = s.fc := rfl
@[simp] theorem recomputeTarget_wlc (s : State) : (recomputeTarget s).wlc = s.wlc := rfl
@[simp] theorem recomputeTarget_su (s : State) : (recomputeTarget s).su = s.su := rfl
@[simp] theorem recomputeTarget_cs (s : State) : (recomputeTarget s).cs = s.cs := rfl
@[simp] theorem recomputeTarget_chan (s : State) : (recomputeTarget s).chan = s.chan := rfl
@[simp] theorem recomputeTarget_pending (s : State) : (recomputeTarget s).pending = s.pending := rfl

@[simp] theorem clearBadFrames_part (s : State) : (clearBadFrames s).part = s.part := rfl
@[simp] theorem clearBadFrames_zt (s : State) : (clearBadFrames s).zt = s.zt := rfl
@[simp] theorem clearBadFrames_ct (s : State) : (clearBadFrames s).ct = s.ct := rfl
@[simp] theorem clearBadFrames_fc (s : State) : (clearBadFrames s).fc = s.fc := rfl
@[simp] theorem clearBadFrames_wlc (s : State) : (clearBadFrames s).wlc = s.wlc := rfl
@[simp] theorem clearBadFrames_lm (s : State) : (clearBadFrames s).lm = s.lm := rfl
@[simp] theorem clearBadFrames_su (s : State) : (clearBadFrames s).su = s.su := rfl
@[simp] theorem clearBadFrames_cs (s : State) : (clearBadFrames s).cs = s.cs := rfl
@[simp] theorem clearBadFrames_chan (s : State) : (clearBadFrames s).chan = s.chan := rfl
@[simp] theorem clearBadFrames_pending (s : State) : (clearBadFrames s).pending = s.pending := rfl

@[simp] theorem takeBoundary_part (due : PartTime) (s : State) : (takeBoundary due s).part = s.part := rfl
@[simp] theorem takeBoundary_cif (due : PartTime) (s : State) : (takeBoundary due s).cif = s.cif := rfl
@[simp] theorem takeBoundary_zt (due : PartTime) (s : State) : (takeBoundary due s).zt = s.zt := rfl
@[simp] theorem takeBoundary_ct (due : PartTime) (s : State) : (takeBoundary due s).ct = s.ct := rfl
@[simp] theorem takeBoundary_fc (due : PartTime) (s : State) : (takeBoundary due s).fc = s.fc := rfl
@[simp] theorem takeBoundary_wlc (due : PartTime) (s : State) : (takeBoundary due s).wlc = s.wlc := rfl
@[simp] theorem takeBoundary_lm (due : PartTime) (s : State) : (takeBoundary due s).lm = s.lm := rfl
@[simp] theorem takeBoundary_cs (due : PartTime) (s : State) : (takeBoundary due s).cs = s.cs := rfl
@[simp] theorem takeBoundary_chan (due : PartTime) (s : State) : (takeBoundary due s).chan = s.chan := rfl
@[simp] theorem takeBoundary_pending (due : PartTime) (s : State) : (takeBoundary due s).pending = s.pending := rfl

@[simp] theorem takeDemand_part (d : Vec3) (s : State) : (takeDemand d s).part = s.part := rfl
@[simp] theorem takeDemand_cif (d : Vec3) (s : State) : (takeDemand d s).cif = s.cif := rfl
@[simp] theorem takeDemand_zt (d : Vec3) (s : State) : (takeDemand d s).zt = s.zt := rfl
@[simp] theorem takeDemand_ct (d : Vec3) (s : State) : (takeDemand d s).ct = s.ct := rfl
@[simp] theorem takeDemand_wlc (d : Vec3) (s : State) : (takeDemand d s).wlc = s.wlc := rfl
@[simp] theorem takeDemand_lm (d : Vec3) (s : State) : (takeDemand d s).lm = s.lm := rfl
@[simp] theorem takeDemand_su (d : Vec3) (s : State) : (takeDemand d s).su = s.su := rfl
@[simp] theorem takeDemand_cs (d : Vec3) (s : State) : (takeDemand d s).cs = s.cs := rfl
@[simp] theorem takeDemand_chan (d : Vec3) (s : State) : (takeDemand d s).chan = s.chan := rfl
@[simp] theorem takeDemand_pending (d : Vec3) (s : State) : (takeDemand d s).pending = s.pending := rfl

@[simp] theorem applyMotion_part (m : Motion) (a : Int) (s : State) : (applyMotion m a s).part = s.part := rfl
@[simp] theorem applyMotion_cif (m : Motion) (a : Int) (s : State) : (applyMotion m a s).cif = s.cif := rfl
@[simp] theorem applyMotion_zt (m : Motion) (a : Int) (s : State) : (applyMotion m a s).zt = s.zt := rfl
@[simp] theorem applyMotion_ct (m : Motion) (a : Int) (s : State) : (applyMotion m a s).ct = s.ct := rfl
@[simp] theorem applyMotion_wlc (m : Motion) (a : Int) (s : State) : (applyMotion m a s).wlc = s.wlc := rfl
@[simp] theorem applyMotion_lm (m : Motion) (a : Int) (s : State) : (applyMotion m a s).lm = s.lm := rfl
@[simp] theorem applyMotion_su (m : Motion) (a : Int) (s : State) : (applyMotion m a s).su = s.su := rfl
@[simp] theorem applyMotion_cs (m : Motion) (a : Int) (s : State) : (applyMotion m a s).cs = s.cs := rfl
@[simp] theorem applyMotion_chan (m : Motion) (a : Int) (s : State) : (applyMotion m a s).chan = s.chan := rfl
@[simp] theorem applyMotion_pending (m : Motion) (a : Int) (s : State) : (applyMotion m a s).pending = s.pending := rfl

@[simp] theorem sendPosition_part (a : Int) (s : State) : (sendPosition a s).part = s.part := rfl
@[simp] theorem sendPosition_cif (a : Int) (s : State) : (sendPosition a s).cif = s.cif := rfl
@[simp] theorem sendPosition_zt (a : Int) (s : State) : (sendPosition a s).zt = s.zt := rfl
@[simp] theorem sendPosition_ct (a : Int) (s : State) : (sendPosition a s).ct = s.ct := rfl
@[simp] theorem sendPosition_fc (a : Int) (s : State) : (sendPosition a s).fc = s.fc := rfl
@[simp] theorem sendPosition_wlc (a : Int) (s : State) : (sendPosition a s).wlc = s.wlc := rfl
@[simp] theorem sendPosition_lm (a : Int) (s : State) : (sendPosition a s).lm = s.lm := rfl
@[simp] theorem sendPosition_su (a : Int) (s : State) : (sendPosition a s).su = s.su := rfl
@[simp] theorem sendPosition_cs (a : Int) (s : State) : (sendPosition a s).cs = s.cs := rfl
@[simp] theorem sendPosition_pending (a : Int) (s : State) : (sendPosition a s).pending = s.pending := rfl

@[simp] theorem handSummary_part (s : State) : (handSummary s).part = s.part := by simp [handSummary]
@[simp] theorem handSummary_cif (s : State) : (handSummary s).cif = s.cif := by simp [handSummary]
@[simp] theorem handSummary_zt (s : State) : (handSummary s).zt = s.zt := by simp [handSummary]
@[simp] theorem handSummary_ct (s : State) : (handSummary s).ct = s.ct := by simp [handSummary]
@[simp] theorem handSummary_fc (s : State) : (handSummary s).fc = s.fc := by simp [handSummary]
@[simp] theorem handSummary_wlc (s : State) : (handSummary s).wlc = s.wlc := by simp [handSummary]
@[simp] theorem handSummary_lm (s : State) : (handSummary s).lm = s.lm := by simp [handSummary]
@[simp] theorem handSummary_su (s : State) : (handSummary s).su = s.su := by simp [handSummary]
@[simp] theorem handSummary_cs (s : State) : (handSummary s).cs = s.cs := by simp [handSummary]
@[simp] theorem handSummary_pending (s : State) : (handSummary s).pending = s.pending := by simp [handSummary]

@[simp] theorem handReport_part (es : List ChangeEntry) (s : State) : (handReport es s).part = s.part := by simp [handReport]
@[simp] theorem handReport_cif (es : List ChangeEntry) (s : State) : (handReport es s).cif = s.cif := by simp [handReport]
@[simp] theorem handReport_zt (es : List ChangeEntry) (s : State) : (handReport es s).zt = s.zt := by simp [handReport]
@[simp] theorem handReport_ct (es : List ChangeEntry) (s : State) : (handReport es s).ct = s.ct := by simp [handReport]
@[simp] theorem handReport_fc (es : List ChangeEntry) (s : State) : (handReport es s).fc = s.fc := by simp [handReport]
@[simp] theorem handReport_wlc (es : List ChangeEntry) (s : State) : (handReport es s).wlc = s.wlc := by simp [handReport]
@[simp] theorem handReport_lm (es : List ChangeEntry) (s : State) : (handReport es s).lm = s.lm := by simp [handReport]
@[simp] theorem handReport_su (es : List ChangeEntry) (s : State) : (handReport es s).su = s.su := by simp [handReport]
@[simp] theorem handReport_cs (es : List ChangeEntry) (s : State) : (handReport es s).cs = s.cs := by simp [handReport]
@[simp] theorem handReport_pending (es : List ChangeEntry) (s : State) : (handReport es s).pending = s.pending := by simp [handReport]

@[simp] theorem setEvictBlocked_part (b : Bool) (s : State) : (setEvictBlocked b s).part = s.part := by unfold setEvictBlocked; split <;> simp
@[simp] theorem setEvictBlocked_cif (b : Bool) (s : State) : (setEvictBlocked b s).cif = s.cif := by unfold setEvictBlocked; split <;> simp
@[simp] theorem setEvictBlocked_zt (b : Bool) (s : State) : (setEvictBlocked b s).zt = s.zt := by unfold setEvictBlocked; split <;> simp
@[simp] theorem setEvictBlocked_ct (b : Bool) (s : State) : (setEvictBlocked b s).ct = s.ct := by unfold setEvictBlocked; split <;> simp
@[simp] theorem setEvictBlocked_wlc (b : Bool) (s : State) : (setEvictBlocked b s).wlc = s.wlc := by unfold setEvictBlocked; split <;> simp
@[simp] theorem setEvictBlocked_lm (b : Bool) (s : State) : (setEvictBlocked b s).lm = s.lm := by unfold setEvictBlocked; split <;> simp
@[simp] theorem setEvictBlocked_su (b : Bool) (s : State) : (setEvictBlocked b s).su = s.su := by unfold setEvictBlocked; split <;> simp
@[simp] theorem setEvictBlocked_cs (b : Bool) (s : State) : (setEvictBlocked b s).cs = s.cs := by unfold setEvictBlocked; split <;> simp
@[simp] theorem setEvictBlocked_pending (b : Bool) (s : State) : (setEvictBlocked b s).pending = s.pending := by unfold setEvictBlocked; split <;> simp

@[simp] theorem setReturnBlocked_part (b : Bool) (s : State) : (setReturnBlocked b s).part = s.part := by unfold setReturnBlocked; split <;> simp
@[simp] theorem setReturnBlocked_cif (b : Bool) (s : State) : (setReturnBlocked b s).cif = s.cif := by unfold setReturnBlocked; split <;> simp
@[simp] theorem setReturnBlocked_zt (b : Bool) (s : State) : (setReturnBlocked b s).zt = s.zt := by unfold setReturnBlocked; split <;> simp
@[simp] theorem setReturnBlocked_ct (b : Bool) (s : State) : (setReturnBlocked b s).ct = s.ct := by unfold setReturnBlocked; split <;> simp
@[simp] theorem setReturnBlocked_wlc (b : Bool) (s : State) : (setReturnBlocked b s).wlc = s.wlc := by unfold setReturnBlocked; split <;> simp
@[simp] theorem setReturnBlocked_lm (b : Bool) (s : State) : (setReturnBlocked b s).lm = s.lm := by unfold setReturnBlocked; split <;> simp
@[simp] theorem setReturnBlocked_su (b : Bool) (s : State) : (setReturnBlocked b s).su = s.su := by unfold setReturnBlocked; split <;> simp
@[simp] theorem setReturnBlocked_cs (b : Bool) (s : State) : (setReturnBlocked b s).cs = s.cs := by unfold setReturnBlocked; split <;> simp
@[simp] theorem setReturnBlocked_pending (b : Bool) (s : State) : (setReturnBlocked b s).pending = s.pending := by unfold setReturnBlocked; split <;> simp

@[simp] theorem setPinned_part (b : Bool) (s : State) : (setPinned b s).part = s.part := by unfold setPinned; split <;> simp
@[simp] theorem setPinned_cif (b : Bool) (s : State) : (setPinned b s).cif = s.cif := by unfold setPinned; split <;> simp
@[simp] theorem setPinned_zt (b : Bool) (s : State) : (setPinned b s).zt = s.zt := by unfold setPinned; split <;> simp
@[simp] theorem setPinned_ct (b : Bool) (s : State) : (setPinned b s).ct = s.ct := by unfold setPinned; split <;> simp
@[simp] theorem setPinned_wlc (b : Bool) (s : State) : (setPinned b s).wlc = s.wlc := by unfold setPinned; split <;> simp
@[simp] theorem setPinned_lm (b : Bool) (s : State) : (setPinned b s).lm = s.lm := by unfold setPinned; split <;> simp
@[simp] theorem setPinned_su (b : Bool) (s : State) : (setPinned b s).su = s.su := by unfold setPinned; split <;> simp
@[simp] theorem setPinned_cs (b : Bool) (s : State) : (setPinned b s).cs = s.cs := by unfold setPinned; split <;> simp
@[simp] theorem setPinned_pending (b : Bool) (s : State) : (setPinned b s).pending = s.pending := by unfold setPinned; split <;> simp

@[simp] theorem setLowPass_part (b : Bool) (s : State) : (setLowPass b s).part = s.part := by unfold setLowPass; split <;> simp
@[simp] theorem setLowPass_cif (b : Bool) (s : State) : (setLowPass b s).cif = s.cif := by unfold setLowPass; split <;> simp
@[simp] theorem setLowPass_zt (b : Bool) (s : State) : (setLowPass b s).zt = s.zt := by unfold setLowPass; split <;> simp
@[simp] theorem setLowPass_ct (b : Bool) (s : State) : (setLowPass b s).ct = s.ct := by unfold setLowPass; split <;> simp
@[simp] theorem setLowPass_wlc (b : Bool) (s : State) : (setLowPass b s).wlc = s.wlc := by unfold setLowPass; split <;> simp
@[simp] theorem setLowPass_lm (b : Bool) (s : State) : (setLowPass b s).lm = s.lm := by unfold setLowPass; split <;> simp
@[simp] theorem setLowPass_su (b : Bool) (s : State) : (setLowPass b s).su = s.su := by unfold setLowPass; split <;> simp
@[simp] theorem setLowPass_cs (b : Bool) (s : State) : (setLowPass b s).cs = s.cs := by unfold setLowPass; split <;> simp
@[simp] theorem setLowPass_pending (b : Bool) (s : State) : (setLowPass b s).pending = s.pending := by unfold setLowPass; split <;> simp

@[simp] theorem clearLatch_part (s : State) : (clearLatch s).part = s.part := by simp [clearLatch]
@[simp] theorem clearLatch_cif (s : State) : (clearLatch s).cif = s.cif := by simp [clearLatch]
@[simp] theorem clearLatch_zt (s : State) : (clearLatch s).zt = s.zt := by simp [clearLatch]
@[simp] theorem clearLatch_ct (s : State) : (clearLatch s).ct = s.ct := by simp [clearLatch]
@[simp] theorem clearLatch_wlc (s : State) : (clearLatch s).wlc = s.wlc := by simp [clearLatch]
@[simp] theorem clearLatch_lm (s : State) : (clearLatch s).lm = s.lm := by simp [clearLatch]
@[simp] theorem clearLatch_su (s : State) : (clearLatch s).su = s.su := by simp [clearLatch]
@[simp] theorem clearLatch_cs (s : State) : (clearLatch s).cs = s.cs := by simp [clearLatch]
@[simp] theorem clearLatch_pending (s : State) : (clearLatch s).pending = s.pending := by simp [clearLatch]

@[simp] theorem setMode_part (m : Mode) (s : State) : (setMode m s).part = s.part := by simp only [setMode, notify_part]; split <;> simp
@[simp] theorem setMode_cif (m : Mode) (s : State) : (setMode m s).cif = s.cif := by simp only [setMode, notify_cif]; split <;> simp
@[simp] theorem setMode_zt (m : Mode) (s : State) : (setMode m s).zt = s.zt := by simp only [setMode, notify_zt]; split <;> simp
@[simp] theorem setMode_ct (m : Mode) (s : State) : (setMode m s).ct = s.ct := by simp only [setMode, notify_ct]; split <;> simp
@[simp] theorem setMode_lm (m : Mode) (s : State) : (setMode m s).lm = s.lm := by simp only [setMode, notify_lm]; split <;> simp
@[simp] theorem setMode_su (m : Mode) (s : State) : (setMode m s).su = s.su := by simp only [setMode, notify_su]; split <;> simp
@[simp] theorem setMode_cs (m : Mode) (s : State) : (setMode m s).cs = s.cs := by simp only [setMode, notify_cs]; split <;> simp
@[simp] theorem setMode_pending (m : Mode) (s : State) : (setMode m s).pending = s.pending := by simp only [setMode, notify_pending]; split <;> simp

/-- FC after a change of mode: the mode alone. -/
@[simp] theorem setMode_fc (m : Mode) (s : State) : (setMode m s).fc = { s.fc with mode := m } := by
  simp only [setMode, notify_fc]; split <;> simp

/-- FC after a condition of its own changes: that flag alone. -/
@[simp] theorem setEvictBlocked_fc (b : Bool) (s : State) : (setEvictBlocked b s).fc = { s.fc with evictBlocked := b } := by
  unfold setEvictBlocked
  split
  · next h => rw [← h]
  · simp

@[simp] theorem setReturnBlocked_fc (b : Bool) (s : State) : (setReturnBlocked b s).fc = { s.fc with returnBlocked := b } := by
  unfold setReturnBlocked
  split
  · next h => rw [← h]
  · simp

@[simp] theorem setPinned_fc (b : Bool) (s : State) : (setPinned b s).fc = { s.fc with pinned := b } := by
  unfold setPinned
  split
  · next h => rw [← h]
  · simp

@[simp] theorem setLowPass_fc (b : Bool) (s : State) : (setLowPass b s).fc = { s.fc with lowPass := b } := by
  unfold setLowPass
  split
  · next h => rw [← h]
  · simp

@[simp] theorem clearLatch_fc (s : State) : (clearLatch s).fc = { s.fc with latch := false, returnBlocked := false } := by
  simp [clearLatch]

end Sys2Proof.Machine
end

