-- ==== Sys2Proof/Laws/Ops.lean ====
section
/-! SUPPORT. One lemma per shared operation that says what it can answer, and the frames of the Flight Controller's and the Zone Table's
operations: what each leaves unchanged. -/

namespace Sys2Proof.Machine

set_option Elab.async false

/-! ## Requests -/

/-- A request at its owner answers a next state: the state itself, or the owner's answer placed on the port. -/
theorem request_cases (p : Port) (owner : Request → State → Option Answer) (s : State) :
    request p owner s = .next s ∨
    ∃ r a, handedRequest p s = some r ∧ owner r s = some a ∧ request p owner s = .next (respond p a.result a.content a.state) := by
  cases hr : handedRequest p s with
  | none => exact .inl (by simp [request, hr])
  | some r =>
    cases ha : owner r s with
    | none => exact .inl (by simp [request, hr, ha])
    | some a => exact .inr ⟨r, a, rfl, ha, by simp [request, hr, ha]⟩

/-- The answer of a request that its owner takes. -/
theorem request_of_handed {p : Port} {owner : Request → State → Option Answer} {s : State} {r : Request} {a : Answer}
    (hr : handedRequest p s = some r) (ha : owner r s = some a) :
    request p owner s = .next (respond p a.result a.content a.state) := by
  simp [request, hr, ha]

/-- No request is taken where none is handed. -/
theorem request_of_none {p : Port} {s : State} (owner : Request → State → Option Answer) (hr : handedRequest p s = none) :
    request p owner s = .next s := by
  simp [request, hr]

/-- A request that is handed is taken by a running part without an outstanding RESTART. -/
theorem handedRequest_some {p : Port} {s : State} {r : Request} (h : handedRequest p s = some r) :
    s.part.running = true ∧ s.part.restartAccepted = false ∧
      ∃ kind tag, (s.cif.port p).inProgress = some ⟨kind, tag, .handed r⟩ := by
  unfold handedRequest at h
  split at h
  · next hg =>
    simp only [Bool.and_eq_true, Bool.not_eq_true'] at hg
    refine ⟨hg.1, hg.2, ?_⟩
    split at h
    · next kind tag r' hp => cases h; exact ⟨kind, tag, hp⟩
    · cases h
  · cases h

/-! ## Timers and messages -/

theorem running_iff (q : Part) : q.running = true ↔ q.supply = true ∧ q.resetLine = false := by
  simp [Part.running]

@[simp] theorem atExpiry_running (due : PartTime) (s : State) : (atExpiry due s).part.running = s.part.running := by
  simp only [atExpiry, Part.advanceTo]; split <;> rfl

theorem whileRunning_of_running {s : State} (f : State → State) (h : s.part.running = true) : whileRunning f s = .next (f s) := by
  simp [whileRunning, h]

theorem whileRunning_of_held {s : State} (f : State → State) (h : s.part.running = false) : whileRunning f s = .next s := by
  simp [whileRunning, h]

/-- A timer's expiry answers the state itself, or its effect at its time. -/
theorem onExpiry_cases (timer : Option PartTime) (effect : State → State) (s : State) :
    onExpiry timer effect s = .next s ∨
    ∃ due, timer = some due ∧ s.part.running = true ∧ onExpiry timer effect s = .next (effect (atExpiry due s)) := by
  cases timer with
  | none => exact .inl rfl
  | some due =>
    cases h : s.part.running with
    | false => exact .inl (whileRunning_of_held (fun s => effect (atExpiry due s)) h)
    | true => exact .inr ⟨due, rfl, rfl, whileRunning_of_running (fun s => effect (atExpiry due s)) h⟩

theorem onExpiry_of_running {s : State} (due : PartTime) (effect : State → State) (h : s.part.running = true) :
    onExpiry (some due) effect s = .next (effect (atExpiry due s)) :=
  whileRunning_of_running (fun s => effect (atExpiry due s)) h

/-- FC's taking of a message answers the state itself, or the effect of the oldest message with it dropped. -/
theorem takeFc_cases (b : Block) (effect : FcMsg → Option (State → State)) (s : State) :
    takeFc b effect s = .next s ∨
    ∃ m rest f, s.chan.toFc b = m :: rest ∧ effect m = some f ∧ s.part.running = true ∧
      takeFc b effect s = .next (f { s with chan := s.chan.dropFc b }) := by
  cases hm : s.chan.toFc b with
  | nil => exact .inl (by simp [takeFc, hm])
  | cons m rest =>
    cases hf : effect m with
    | none => exact .inl (by simp [takeFc, hm, hf])
    | some f =>
      cases h : s.part.running with
      | false => exact .inl (by simp [takeFc, hm, hf, whileRunning, h])
      | true => exact .inr ⟨m, rest, f, rfl, hf, rfl, by simp [takeFc, hm, hf, whileRunning, h]⟩

/-- SU's taking of a message answers the state itself, or the effect of the oldest message with it dropped. -/
theorem takeSu_cases (b : Block) (effect : SuMsg → Option (State → State)) (s : State) :
    takeSu b effect s = .next s ∨
    ∃ m rest f, s.chan.toSu b = m :: rest ∧ effect m = some f ∧ s.part.running = true ∧
      takeSu b effect s = .next (f { s with chan := s.chan.dropSu b }) := by
  cases hm : s.chan.toSu b with
  | nil => exact .inl (by simp [takeSu, hm])
  | cons m rest =>
    cases hf : effect m with
    | none => exact .inl (by simp [takeSu, hm, hf])
    | some f =>
      cases h : s.part.running with
      | false => exact .inl (by simp [takeSu, hm, hf, whileRunning, h])
      | true => exact .inr ⟨m, rest, f, rfl, hf, rfl, by simp [takeSu, hm, hf, whileRunning, h]⟩

/-! A part that is held takes no event. -/

theorem handedRequest_of_held {s : State} (p : Port) (h : s.part.running = false) : handedRequest p s = none := by
  simp [handedRequest, h]

theorem onExpiry_of_held {s : State} (timer : Option PartTime) (effect : State → State) (h : s.part.running = false) :
    onExpiry timer effect s = .next s := by
  cases timer <;> simp [onExpiry, whileRunning, h]

theorem takeFc_of_held {s : State} (b : Block) (effect : FcMsg → Option (State → State)) (h : s.part.running = false) :
    takeFc b effect s = .next s := by
  rcases takeFc_cases b effect s with e | ⟨_, _, _, _, _, e, _⟩
  · exact e
  · simp [h] at e

theorem takeSu_of_held {s : State} (b : Block) (effect : SuMsg → Option (State → State)) (h : s.part.running = false) :
    takeSu b effect s = .next s := by
  rcases takeSu_cases b effect s with e | ⟨_, _, _, _, _, e, _⟩
  · exact e
  · simp [h] at e

/-! ## Ports -/

@[simp] theorem Cif.port_setPort_same (c : Cif) (p : Port) (q : PortState) : (c.setPort p q).port p = q := by cases p <;> rfl

theorem Cif.port_setPort_other (c : Cif) {p p' : Port} (q : PortState) (h : p' ≠ p) : (c.setPort p q).port p' = c.port p' := by
  cases p <;> cases p' <;> first | rfl | exact absurd rfl h

@[simp] theorem Cif.setPort_rate (c : Cif) (p : Port) (q : PortState) : (c.setPort p q).rate = c.rate := by cases p <;> rfl

@[simp] theorem Cif.setPort_port (c : Cif) (p : Port) : c.setPort p (c.port p) = c := by cases p <;> rfl

/-- Everything that an answer can do: it changes its own port. -/
theorem respond_eq (p : Port) (result : Result) (content : List Byte) (s : State) :
    respond p result content s =
      { s with cif := s.cif.setPort p (PortState.respond p s.part.restartAccepted result content (s.cif.port p)) } := rfl

/-! ## Flight: what its operations leave unchanged -/

/-- What the operations of flight keep: everything outside FC, the shot queue, the held targets and the messages; of FC the position, the
copies, the stop causes and the step's records; of CT the cues and its copies; of the messages those that flight does not send. -/
structure FlightFrame (s u : State) : Prop where
  part : u.part = s.part
  cif : u.cif = s.cif
  zt : u.zt = s.zt
  lm : u.lm = s.lm
  su : u.su = s.su
  cs : u.cs = s.cs
  pending : u.pending = s.pending
  wlc : ∀ w : Winch, u.wlc[w] = { s.wlc[w] with heldLength := u.wlc[w].heldLength, heldCommand := u.wlc[w].heldCommand }
  slots : u.ct.slots = s.ct.slots
  ctZones : u.ct.zones = s.ct.zones
  ctAllowance : u.ct.allowance = s.ct.allowance
  p : u.fc.p = s.fc.p
  causes : u.fc.causes = s.fc.causes
  zones : u.fc.zones = s.fc.zones
  nearCap : u.fc.nearCap = s.fc.nearCap
  subject : u.fc.subject = s.fc.subject
  high : u.fc.high = s.fc.high
  warm : u.fc.warm = s.fc.warm
  hot : u.fc.hot = s.fc.hot
  driveStatus : u.fc.driveStatus = s.fc.driveStatus
  lengths : u.fc.lengths = s.fc.lengths
  links : u.fc.links = s.fc.links
  maxSpeed : u.fc.maxSpeed = s.fc.maxSpeed
  servo : u.fc.servo = s.fc.servo
  allowanceSent : u.fc.allowanceSent = s.fc.allowanceSent
  lastA : u.fc.lastA = s.fc.lastA
  lastCap : u.fc.lastCap = s.fc.lastCap
  lowPass : u.fc.lowPass = s.fc.lowPass
  toZt : u.chan.fcToZt = s.chan.fcToZt
  toCt : u.chan.fcToCt = s.chan.fcToCt
  ztToFc : u.chan.ztToFc = s.chan.ztToFc
  wlcToFc : u.chan.wlcToFc = s.chan.wlcToFc
  lmToFc : u.chan.lmToFc = s.chan.lmToFc
  ztToCt : u.chan.ztToCt = s.chan.ztToCt
  wlcToSu : u.chan.wlcToSu = s.chan.wlcToSu
  lmToSu : u.chan.lmToSu = s.chan.lmToSu
  ztToSu : u.chan.ztToSu = s.chan.ztToSu
  csToSu : u.chan.csToSu = s.chan.csToSu

theorem FlightFrame.refl (s : State) : FlightFrame s s := by
  constructor <;> first | rfl | (intro w; rfl)

theorem FlightFrame.trans {s t u : State} (h : FlightFrame s t) (k : FlightFrame t u) : FlightFrame s u := by
  constructor
  case wlc => intro w; rw [k.wlc w, h.wlc w]
  case part => rw [k.part, h.part]
  case cif => rw [k.cif, h.cif]
  case zt => rw [k.zt, h.zt]
  case lm => rw [k.lm, h.lm]
  case su => rw [k.su, h.su]
  case cs => rw [k.cs, h.cs]
  case pending => rw [k.pending, h.pending]
  case slots => rw [k.slots, h.slots]
  case ctZones => rw [k.ctZones, h.ctZones]
  case ctAllowance => rw [k.ctAllowance, h.ctAllowance]
  case p => rw [k.p, h.p]
  case causes => rw [k.causes, h.causes]
  case zones => rw [k.zones, h.zones]
  case nearCap => rw [k.nearCap, h.nearCap]
  case subject => rw [k.subject, h.subject]
  case high => rw [k.high, h.high]
  case warm => rw [k.warm, h.warm]
  case hot => rw [k.hot, h.hot]
  case driveStatus => rw [k.driveStatus, h.driveStatus]
  case lengths => rw [k.lengths, h.lengths]
  case links => rw [k.links, h.links]
  case maxSpeed => rw [k.maxSpeed, h.maxSpeed]
  case servo => rw [k.servo, h.servo]
  case allowanceSent => rw [k.allowanceSent, h.allowanceSent]
  case lastA => rw [k.lastA, h.lastA]
  case lastCap => rw [k.lastCap, h.lastCap]
  case lowPass => rw [k.lowPass, h.lowPass]
  case toZt => rw [k.toZt, h.toZt]
  case toCt => rw [k.toCt, h.toCt]
  case ztToFc => rw [k.ztToFc, h.ztToFc]
  case wlcToFc => rw [k.wlcToFc, h.wlcToFc]
  case lmToFc => rw [k.lmToFc, h.lmToFc]
  case ztToCt => rw [k.ztToCt, h.ztToCt]
  case wlcToSu => rw [k.wlcToSu, h.wlcToSu]
  case lmToSu => rw [k.lmToSu, h.lmToSu]
  case ztToSu => rw [k.ztToSu, h.ztToSu]
  case csToSu => rw [k.csToSu, h.csToSu]

/-- What an operation of flight leaves unchanged outside flight. -/
theorem FlightFrame.only {s u : State} (h : FlightFrame s u) : OnlyFlight s u := by
  refine ⟨?_, h.wlc⟩
  obtain ⟨part, cif, zt, ct, fc, wlc, lm, su, cs, chan, pending⟩ := u
  have := h.part; have := h.cif; have := h.zt; have := h.lm; have := h.su; have := h.cs; have := h.pending
  simp_all

theorem notify_frame (n : Notice) (s : State) : FlightFrame s (notify n s) := by
  constructor <;> first | rfl | (intro w; rfl)

theorem handTargets_frame (s : State) : FlightFrame s (handTargets s) := by
  constructor <;> first | rfl | (intro w; simp [handTargets])

theorem tellSu_fc_frame (m : SuMsg) (s : State) : FlightFrame s (tellSu .fc m s) := by
  constructor <;> first | rfl | (intro w; rfl)

/-- An update of the parts of FC that belong to the mode, and of the shot queue, is within the frame. -/
theorem frame_of_fc_ct (s : State) (fc : Fc) (ct : Ct)
    (hct : ct.slots = s.ct.slots ∧ ct.zones = s.ct.zones ∧ ct.allowance = s.ct.allowance)
    (hfc : fc = { s.fc with
      mode := fc.mode, v := fc.v, latch := fc.latch, jogDemand := fc.jogDemand, deadman := fc.deadman, launchTimer := fc.launchTimer,
      settleTimer := fc.settleTimer, run := fc.run, evict := fc.evict, legGoal := fc.legGoal, lastCapTerm := fc.lastCapTerm,
      evictBlocked := fc.evictBlocked, returnBlocked := fc.returnBlocked, pinned := fc.pinned }) :
    FlightFrame s { s with fc := fc, ct := ct } := by
  obtain ⟨h1, h2, h3⟩ := hct
  constructor <;> first | rfl | (intro w; rfl) | assumption | (rw [hfc])

theorem setMode_frame (m : Mode) (s : State) : FlightFrame s (setMode m s) := by
  unfold setMode
  have h1 : FlightFrame s { s with fc := { s.fc with mode := m } } := frame_of_fc_ct s _ s.ct ⟨rfl, rfl, rfl⟩ rfl
  have h2 := h1.trans (handTargets_frame _)
  refine FlightFrame.trans ?_ (notify_frame _ _)
  simp only
  split
  · exact h2
  · exact h2.trans (tellSu_fc_frame _ _)

theorem setEvictBlocked_frame (b : Bool) (s : State) : FlightFrame s (setEvictBlocked b s) := by
  unfold setEvictBlocked; split
  · exact .refl s
  · exact (frame_of_fc_ct s { s.fc with evictBlocked := b } s.ct ⟨rfl, rfl, rfl⟩ rfl).trans (tellSu_fc_frame _ _)

theorem setReturnBlocked_frame (b : Bool) (s : State) : FlightFrame s (setReturnBlocked b s) := by
  unfold setReturnBlocked; split
  · exact .refl s
  · exact (frame_of_fc_ct s { s.fc with returnBlocked := b } s.ct ⟨rfl, rfl, rfl⟩ rfl).trans (tellSu_fc_frame _ _)

theorem setPinned_frame (b : Bool) (s : State) : FlightFrame s (setPinned b s) := by
  unfold setPinned; split
  · exact .refl s
  · exact (frame_of_fc_ct s { s.fc with pinned := b } s.ct ⟨rfl, rfl, rfl⟩ rfl).trans (tellSu_fc_frame _ _)

theorem clearLatch_frame (s : State) : FlightFrame s (clearLatch s) :=
  (frame_of_fc_ct s { s.fc with latch := false } s.ct ⟨rfl, rfl, rfl⟩ rfl).trans (setReturnBlocked_frame _ _)

theorem setLatch_frame (s : State) : FlightFrame s (setLatch s) :=
  frame_of_fc_ct s { s.fc with latch := true } s.ct ⟨rfl, rfl, rfl⟩ rfl

theorem haltHead_frame (st : EntryStatus) (s : State) : FlightFrame s (haltHead st s) :=
  frame_of_fc_ct s s.fc _ ⟨rfl, rfl, rfl⟩ rfl

theorem reportQueue_frame (t : Ct) (s : State) : FlightFrame s (reportQueue t s) := by
  unfold reportQueue; split
  · exact .refl s
  · exact notify_frame _ _

theorem runStart_frame (e : QueueEntry) (s : State) : FlightFrame s (runStart e s).1 := by
  unfold runStart
  split
  · exact haltHead_frame _ _
  split
  · exact haltHead_frame _ _
  split
  · exact haltHead_frame _ _
  · exact (frame_of_fc_ct s _ { s.ct with queue := setHead .running s.ct.queue, dwell := none } ⟨rfl, rfl, rfl⟩ rfl).trans
      (setMode_frame _ _)

theorem startTest_frame (s : State) : FlightFrame s (startTest s) := by
  unfold startTest
  split
  · exact .refl s
  split
  · exact runStart_frame _ _
  · exact .refl s

theorem closeMode_frame (s : State) : FlightFrame s (closeMode s) := by
  unfold closeMode
  split
  · exact frame_of_fc_ct s _ s.ct ⟨rfl, rfl, rfl⟩ rfl
  · exact (haltHead_frame .aborted s).trans (frame_of_fc_ct _ _ _ ⟨rfl, rfl, rfl⟩ rfl)
  · exact frame_of_fc_ct s _ s.ct ⟨rfl, rfl, rfl⟩ rfl
  all_goals exact .refl s

theorem enterEvict_frame (r : EvictRecord) (s : State) : FlightFrame s (enterEvict r s) := by
  unfold enterEvict
  exact (closeMode_frame s).trans
    (((frame_of_fc_ct _ _ _ ⟨rfl, rfl, rfl⟩ rfl).trans (setEvictBlocked_frame _ _)).trans (setMode_frame _ _))

theorem beginLeg_frame {leg : Leg} {s u : State} (h : beginLeg leg s = some u) : FlightFrame s u := by
  unfold beginLeg at h
  split at h
  · cases h
  · simp only at h
    split at h
    · cases h
    · cases h
      exact (frame_of_fc_ct s _ s.ct ⟨rfl, rfl, rfl⟩ rfl).trans (setMode_frame _ _)

theorem startReturnInHold_frame (s : State) : FlightFrame s (startReturnInHold s) := by
  unfold startReturnInHold
  split
  · next h => exact (beginLeg_frame h).trans (setReturnBlocked_frame _ _)
  · exact (frame_of_fc_ct s _ s.ct ⟨rfl, rfl, rfl⟩ rfl).trans (setReturnBlocked_frame _ _)

theorem evictionTestInHold_frame (s : State) : FlightFrame s (evictionTestInHold s) := by
  unfold evictionTestInHold
  split
  · exact .refl s
  · exact (frame_of_fc_ct s _ s.ct ⟨rfl, rfl, rfl⟩ rfl).trans (setEvictBlocked_frame _ _)
  · exact enterEvict_frame _ _

/-- A frame through a conditional step. -/
theorem FlightFrame.ite {s t u : State} {c : Prop} [Decidable c] (h : FlightFrame s t) (k : FlightFrame s u) :
    FlightFrame s (if c then t else u) := by split <;> assumption

theorem holdTests_frame (cause : HoldCause) (s : State) : FlightFrame s (holdTests cause s) := by
  unfold holdTests
  have h1 : FlightFrame s (if s.fc.hot = true then setLatch s else s) := .ite (setLatch_frame s) (.refl s)
  generalize (if s.fc.hot = true then setLatch s else s) = t at h1
  have h2 : FlightFrame s (if (t.fc.latch && holdStartsReturn cause t) = true then startReturnInHold t else t) :=
    .ite (h1.trans (startReturnInHold_frame t)) h1
  simp only
  generalize (if (t.fc.latch && holdStartsReturn cause t) = true then startReturnInHold t else t) = r at h2
  exact .ite (h2.trans (startTest_frame r)) h2

theorem enterHold_frame (cause : HoldCause) (s : State) : FlightFrame s (enterHold cause s) := by
  unfold enterHold
  have h1 := (frame_of_fc_ct s { s.fc with deadman := none, jogDemand := .zero, run := none, legGoal := none, evict := none } s.ct
    ⟨rfl, rfl, rfl⟩ rfl).trans (setMode_frame .hold _)
  simp only
  generalize setMode Mode.hold _ = t at h1
  have h2 : FlightFrame s (if cause = .evictBlocked then t else evictionTestInHold t) := .ite h1 (h1.trans (evictionTestInHold_frame t))
  generalize (if cause = .evictBlocked then t else evictionTestInHold t) = r at h2
  exact .ite (h2.trans (holdTests_frame cause r)) h2

theorem blockEviction_frame (s : State) : FlightFrame s (blockEviction s) := by
  unfold blockEviction
  exact (((frame_of_fc_ct s _ s.ct ⟨rfl, rfl, rfl⟩ rfl).trans (setEvictBlocked_frame _ _)).trans (closeMode_frame _)).trans
    (enterHold_frame _ _)

theorem evictionTest_frame (s : State) : FlightFrame s (evictionTest s) := by
  unfold evictionTest
  split
  · split
    · exact .refl s
    · exact enterEvict_frame _ _
    · exact .ite (.refl s) (.ite (evictionTestInHold_frame s) (blockEviction_frame s))
  · exact .refl s

theorem chooseAgain_frame (s : State) : FlightFrame s (chooseAgain s) := by
  unfold chooseAgain
  split
  · exact frame_of_fc_ct s _ s.ct ⟨rfl, rfl, rfl⟩ rfl
  · exact blockEviction_frame s

theorem blockReturn_frame (s : State) : FlightFrame s (blockReturn s) := by
  unfold blockReturn
  have h1 := (frame_of_fc_ct s { s.fc with legGoal := none } s.ct ⟨rfl, rfl, rfl⟩ rfl).trans (setReturnBlocked_frame true _)
  simp only
  generalize setReturnBlocked true _ = t at h1
  exact .ite h1 ((h1.trans (closeMode_frame t)).trans (enterHold_frame _ _))

theorem startReturn_frame (s : State) : FlightFrame s (startReturn s) := by
  unfold startReturn
  have h1 := closeMode_frame s
  simp only
  generalize closeMode s = t at h1
  split
  · exact h1.trans (startReturnInHold_frame t)
  split
  · next h => exact (h1.trans (beginLeg_frame h)).trans (setReturnBlocked_frame _ _)
  · exact (h1.trans ((frame_of_fc_ct t _ t.ct ⟨rfl, rfl, rfl⟩ rfl).trans (setReturnBlocked_frame true _))).trans (enterHold_frame _ _)

theorem returnDemand_frame (s : State) : FlightFrame s (returnDemand s) := by
  unfold returnDemand
  split
  · exact .refl s
  · exact .refl s
  · exact setLatch_frame s
  · exact setLatch_frame s
  · exact setLatch_frame s
  all_goals exact (setLatch_frame s).trans (startReturn_frame _)

theorem testLaunch_frame (s : State) : FlightFrame s (testLaunch s) := by
  unfold testLaunch
  exact .ite ((frame_of_fc_ct s _ s.ct ⟨rfl, rfl, rfl⟩ rfl).trans (enterHold_frame _ _)) (.refl s)

theorem enterLaunching_frame (s : State) : FlightFrame s (enterLaunching s) :=
  ((frame_of_fc_ct s _ s.ct ⟨rfl, rfl, rfl⟩ rfl).trans (setMode_frame _ _)).trans (testLaunch_frame _)

theorem enterParked_frame (s : State) : FlightFrame s (enterParked s) :=
  (((frame_of_fc_ct s { s.fc with settleTimer := none, v := .zero } s.ct ⟨rfl, rfl, rfl⟩ rfl).trans (clearLatch_frame _)).trans
    (setPinned_frame _ _)).trans (setMode_frame _ _)

theorem testSettle_frame (s : State) : FlightFrame s (testSettle s) := by
  unfold testSettle
  exact .ite (enterParked_frame s) (.refl s)

theorem enterSettle_frame (s : State) : FlightFrame s (enterSettle s) :=
  ((frame_of_fc_ct s _ s.ct ⟨rfl, rfl, rfl⟩ rfl).trans (setMode_frame _ _)).trans (testSettle_frame _)

theorem closeForStop_frame (s : State) : FlightFrame s (closeForStop s) := by
  unfold closeForStop
  exact (closeMode_frame s).trans (frame_of_fc_ct _ _ (closeMode s).ct ⟨rfl, rfl, rfl⟩ rfl)

theorem enterStopped_frame (s : State) : FlightFrame s (enterStopped s) := by
  unfold enterStopped
  have h1 := (frame_of_fc_ct s { s.fc with v := .zero } s.ct ⟨rfl, rfl, rfl⟩ rfl).trans (closeForStop_frame _)
  simp only
  generalize closeForStop _ = t at h1
  have h2 := h1.trans ((setPinned_frame false t).trans ((setEvictBlocked_frame false _).trans (setReturnBlocked_frame false _)))
  exact (h2.trans (frame_of_fc_ct _ _ { (setReturnBlocked false _).ct with halted := true } ⟨rfl, rfl, rfl⟩ rfl)).trans
    (setMode_frame _ _)

end Sys2Proof.Machine
end

