-- ==== Sys2Proof/Laws/Requests.lean ====
section
/-! SUPPORT. What each console request answers when its owner takes it: one lemma per request, and the command of a request that is not
asked. -/

namespace Sys2Proof.Machine

set_option Elab.async false

/-- A command gives a port its owner's answer. -/
def Gives (c : Instr) (s : State) (p : Port) (a : Answer) : Prop := Answers c s p a.result a.content a.state

theorem Gives.answers {c : Instr} {s : State} {p : Port} {a : Answer} (h : Gives c s p a) :
    Answers c s p a.result a.content a.state := h

theorem Gives.eq {c : Instr} {s : State} {p : Port} {a b : Answer} (h : Gives c s p a) (e : a = b) : Gives c s p b := e ▸ h

theorem Gives.refuses {c : Instr} {s : State} {p : Port} {a : Answer} {r : Result} (h : Gives c s p a) (e : a = refuse r s) :
    Refuses c s p r := by rw [e] at h; exact h

theorem Gives.to {c : Instr} {s u : State} {p : Port} {a : Answer} {r : Result} {content : List Byte} (h : Gives c s p a)
    (e : a = ⟨r, content, u⟩) : Answers c s p r content u := by rw [e] at h; exact h

theorem asked_zonePut_class {s : State} {p : Port} {cb : Byte} {box : Box} {guard hyst cap : Int} {group : Option Byte}
    {life : Option Int} {c : ZoneClass} (h : Asked s p (.zonePut cb box guard hyst cap group life)) (hc : classOf cb = some c) :
    Gives (.zonePut p) s p (zonePut p ⟨c, box, guard, hyst, cap, group, life⟩ s) := by
  simp only [Asked] at h
  simp only [Gives, Answers, exec, execZonePut, request, h, hc]

theorem asked_zonePut_none {s : State} {p : Port} {cb : Byte} {box : Box} {guard hyst cap : Int} {group : Option Byte}
    {life : Option Int} (h : Asked s p (.zonePut cb box guard hyst cap group life)) (hc : classOf cb = none) :
    Refuses (.zonePut p) s p .badField := by
  simp only [Asked] at h
  simp only [Refuses, Answers, exec, execZonePut, request, h, hc, refuse]

theorem asked_zoneShift {s : State} {p : Port} {handle gen : Byte} {box : Box} {guard hyst cap : Option Int}
    (h : Asked s p (.zoneShift handle gen box guard hyst cap)) :
    Gives (.zoneShift p) s p (onZoneGranted p .put handle gen s (fun h z => zoneShift ⟨box, guard, hyst, cap⟩ h z s)) := by
  simp only [Asked] at h
  simp only [Gives, Answers, exec, execZoneShift, request, h]

theorem asked_zoneRenew {s : State} {p : Port} {handle gen : Byte} {life : Int}
    (h : Asked s p (.zoneRenew handle gen life)) :
    Gives (.zoneRenew p) s p (onZoneGranted p .put handle gen s (fun h z => zoneRenew life h z s)) := by
  simp only [Asked] at h
  simp only [Gives, Answers, exec, execZoneRenew, request, h]

theorem asked_zoneSuspend {s : State} {p : Port} {handle gen : Byte}
    (h : Asked s p (.zoneSuspend handle gen)) :
    Gives (.zoneSuspend p) s p (onZoneGranted p .suspend handle gen s (fun h z => zoneSuspend h z s)) := by
  simp only [Asked] at h
  simp only [Gives, Answers, exec, execZoneSuspend, request, h]

theorem asked_zoneResume {s : State} {p : Port} {handle gen : Byte}
    (h : Asked s p (.zoneResume handle gen)) :
    Gives (.zoneResume p) s p (onZoneGranted p .suspend handle gen s (fun h z => zoneResume h z s)) := by
  simp only [Asked] at h
  simp only [Gives, Answers, exec, execZoneResume, request, h]

theorem asked_zoneDrop {s : State} {p : Port} {handle gen : Byte}
    (h : Asked s p (.zoneDrop handle gen)) :
    Gives (.zoneDrop p) s p (onZoneGranted p .drop handle gen s (fun h z => ⟨.ok, [], carryOut (s.zt.work.change h z.cls .drop none) s⟩)) := by
  simp only [Asked] at h
  simp only [Gives, Answers, exec, execZoneDrop, request, h]

theorem asked_zoneRead {s : State} {p : Port} {handle gen : Byte}
    (h : Asked s p (.zoneRead handle gen)) :
    Gives (.zoneRead p) s p (onZone handle gen s (fun h z => ⟨.ok, zoneRecordBytes s.zt h z, s⟩)) := by
  simp only [Asked] at h
  simp only [Gives, Answers, exec, execZoneRead, request, h]

theorem asked_zoneList {s : State} {p : Port} {states classes : Byte}
    (h : Asked s p (.zoneList states classes)) :
    Gives (.zoneList p) s p (zoneList states classes s) := by
  simp only [Asked] at h
  simp only [Gives, Answers, exec, execZoneList, request, h]

theorem asked_groupSuspend {s : State} {p : Port} {group : Byte}
    (h : Asked s p (.groupSuspend group)) :
    Gives (.groupSuspend p) s p (groupSuspend p group s) := by
  simp only [Asked] at h
  simp only [Gives, Answers, exec, execGroupSuspend, request, h]

theorem asked_groupResume {s : State} {p : Port} {group : Byte}
    (h : Asked s p (.groupResume group)) :
    Gives (.groupResume p) s p (groupResume p group s) := by
  simp only [Asked] at h
  simp only [Gives, Answers, exec, execGroupResume, request, h]

theorem asked_clockFreeze {s : State} {p : Port}
    (h : Asked s p .clockFreeze) :
    Gives (.clockFreeze p) s p (okWithClock { s with zt := { s.zt with frozen := true } }) := by
  simp only [Asked] at h
  simp only [Gives, Answers, exec, execClockFreeze, request, h]

theorem asked_clockThaw {s : State} {p : Port}
    (h : Asked s p .clockThaw) :
    Gives (.clockThaw p) s p (okWithClock (thaw s)) := by
  simp only [Asked] at h
  simp only [Gives, Answers, exec, execClockThaw, request, h]

theorem asked_clockRead {s : State} {p : Port}
    (h : Asked s p .clockRead) :
    Gives (.clockRead p) s p (okWithClock s) := by
  simp only [Asked] at h
  simp only [Gives, Answers, exec, execClockRead, request, h]

theorem asked_cueStore {s : State} {p : Port} {handle : Byte} {label : List Byte} {target : Vec3} {cruise tolerance dwell : Int}
    (h : Asked s p (.cueStore handle label target cruise tolerance dwell)) :
    Gives (.cueStore p) s p (cueStore p handle ⟨label, target, cruise, tolerance, dwell⟩ s) := by
  simp only [Asked] at h
  simp only [Gives, Answers, exec, execCueStore, request, h]

theorem asked_cueDrop {s : State} {p : Port} {handle gen : Byte}
    (h : Asked s p (.cueDrop handle gen)) :
    Gives (.cueDrop p) s p (onCue handle gen s (fun h c =>
      if rowGrants s.cs.record.matrix.cue p (decide (c.owner = p)) then cueDrop h s else refuse .denied s)) := by
  simp only [Asked] at h
  simp only [Gives, Answers, exec, execCueDrop, request, h]

theorem asked_cueRead {s : State} {p : Port} {handle gen : Byte}
    (h : Asked s p (.cueRead handle gen)) :
    Gives (.cueRead p) s p (onCue handle gen s (fun h c => ⟨.ok, cueRecordBytes s.ct h c, s⟩)) := by
  simp only [Asked] at h
  simp only [Gives, Answers, exec, execCueRead, request, h]

theorem asked_cueList {s : State} {p : Port} {states : Byte}
    (h : Asked s p (.cueList states)) :
    Gives (.cueList p) s p (cueList states s) := by
  simp only [Asked] at h
  simp only [Gives, Answers, exec, execCueList, request, h]

theorem asked_queueAdd {s : State} {p : Port} {handle gen kind : Byte}
    (h : Asked s p (.queueAdd handle gen kind)) :
    Gives (.queueAdd p) s p (queueAdd p handle gen kind s) := by
  simp only [Asked] at h
  simp only [Gives, Answers, exec, execQueueAdd, request, h]

theorem asked_queueTake {s : State} {p : Port}
    (h : Asked s p .queueTake) :
    Gives (.queueTake p) s p (queueTake p s) := by
  simp only [Asked] at h
  simp only [Gives, Answers, exec, execQueueTake, request, h]

theorem asked_queueSkip {s : State} {p : Port}
    (h : Asked s p .queueSkip) :
    Gives (.queueSkip p) s p (if !queueGrants s.cs.record.matrix.queueSkip p then refuse .denied s
      else match s.ct.queue with
        | [] => refuse .empty s
        | e :: rest => skipHead e rest s) := by
  simp only [Asked] at h
  simp only [Gives, Answers, exec, execQueueSkip, request, h] <;> rfl

theorem asked_queueClear {s : State} {p : Port}
    (h : Asked s p .queueClear) :
    Gives (.queueClear p) s p (if !queueGrants s.cs.record.matrix.queueClear p then refuse .denied s else queueClear s) := by
  simp only [Asked] at h
  simp only [Gives, Answers, exec, execQueueClear, request, h]

theorem asked_queueRead {s : State} {p : Port}
    (h : Asked s p .queueRead) :
    Gives (.queueRead p) s p (⟨.ok, queueBytes s.part.partTime s.ct, s⟩) := by
  simp only [Asked] at h
  simp only [Gives, Answers, exec, execQueueRead, request, h]

theorem asked_launch_refused {s : State} {p : Port} {r : Result} (h : Asked s p .launch) (hc : launchCheck s = some r) :
    Refuses (.launch p) s p r := by
  simp only [Asked] at h
  simp only [Refuses, Answers, exec, execLaunch, request, h, hc, refuse]

theorem asked_launch_passed {s : State} {p : Port} (h : Asked s p .launch) (hc : launchCheck s = none) :
    Gives (.launch p) s p ⟨.ok, [], reportQueue s.ct (enterLaunching s)⟩ := by
  simp only [Asked] at h
  simp only [Gives, Answers, exec, execLaunch, request, h, hc]

theorem asked_jog {s : State} {p : Port} {d : Vec3}
    (h : Asked s p (.jog d)) :
    Gives (.jog p) s p (jogRequest d s) := by
  simp only [Asked] at h
  simp only [Gives, Answers, exec, execJog, request, h]

theorem asked_hold {s : State} {p : Port}
    (h : Asked s p .hold) :
    Gives (.hold p) s p (holdRequest s) := by
  simp only [Asked] at h
  simp only [Gives, Answers, exec, execHold, request, h]

theorem asked_returnDock {s : State} {p : Port} (h : Asked s p .returnDock) :
    Answers (.returnDock p) s p .ok (modeByte (returnDemand s)) (reportQueue s.ct (returnDemand s)) := by
  have e := request_of_handed (owner := fun r s =>
    match r with
    | .returnDock => some (⟨.ok, modeByte (returnDemand s), reportQueue s.ct (returnDemand s)⟩ : Answer)
    | _ => none) h rfl
  exact e

theorem asked_stop {s : State} {p : Port}
    (h : Asked s p .stop) :
    Gives (.stop p) s p (stopRequest s) := by
  simp only [Asked] at h
  simp only [Gives, Answers, exec, execStop, request, h]

theorem asked_resume {s : State} {p : Port}
    (h : Asked s p .resume) :
    Gives (.resume p) s p (resumeRequest s) := by
  simp only [Asked] at h
  simp only [Gives, Answers, exec, execResume, request, h]

theorem asked_flightRead {s : State} {p : Port}
    (h : Asked s p .flightRead) :
    Gives (.flightRead p) s p (⟨.ok, flightBytes s, s⟩) := by
  simp only [Asked] at h
  simp only [Gives, Answers, exec, execFlightRead, request, h]

theorem asked_winchRead {s : State} {p : Port} {winch : Byte}
    (h : Asked s p (.winchRead winch)) :
    Gives (.winchRead p) s p (winchRead winch s) := by
  simp only [Asked] at h
  simp only [Gives, Answers, exec, execWinchRead, request, h]

theorem asked_counters {s : State} {p : Port} {winch clear : Byte}
    (h : Asked s p (.counters winch clear)) :
    Gives (.counters p) s p (countersRequest winch clear s) := by
  simp only [Asked] at h
  simp only [Gives, Answers, exec, execCounters, request, h]

theorem asked_conditionsRead {s : State} {p : Port} {clear : Byte}
    (h : Asked s p (.conditionsRead clear)) :
    Gives (.conditionsRead p) s p (conditionsRead p clear s) := by
  simp only [Asked] at h
  simp only [Gives, Answers, exec, execConditionsRead, request, h]

theorem asked_acknowledge {s : State} {p : Port} {number : Byte}
    (h : Asked s p (.acknowledge number)) :
    Gives (.acknowledge p) s p (acknowledge number s) := by
  simp only [Asked] at h
  simp only [Gives, Answers, exec, execAcknowledge, request, h]

theorem asked_configRead {s : State} {p : Port} {group : Byte} {winch : Option Byte}
    (h : Asked s p (.configRead group winch)) :
    Gives (.configRead p) s p (configRead group winch s) := by
  simp only [Asked] at h
  simp only [Gives, Answers, exec, execConfigRead, request, h]

theorem asked_configWrite {s : State} {p : Port} {group : Byte} {rest : List Byte}
    (h : Asked s p (.configWrite group rest)) :
    Gives (.configWrite p) s p (configWrite group rest s) := by
  simp only [Asked] at h
  simp only [Gives, Answers, exec, execConfigWrite, request, h]

theorem asked_configSave {s : State} {p : Port}
    (h : Asked s p .configSave) :
    Gives (.configSave p) s p (configSave s) := by
  simp only [Asked] at h
  simp only [Gives, Answers, exec, execConfigSave, request, h]

theorem asked_restart {s : State} {p : Port}
    (h : Asked s p .restart) :
    Gives (.restart p) s p (restartRequest s) := by
  simp only [Asked] at h
  simp only [Gives, Answers, exec, execRestart, request, h]

/-- DRIVE QUERY answers later, or at once with a refusal. -/
theorem asked_driveQuery {s : State} {p : Port} {winch code : Byte} {args : List Byte} (h : Asked s p (.driveQuery winch code args)) :
    exec (.driveQuery p) s = .next (driveQueryRequest p winch code args s) := by
  simp only [Asked] at h
  simp [exec, execDriveQuery, h]

end Sys2Proof.Machine
end

