-- ==== Sys2Proof/Laws/Servo.lean ====
section
/-! SUPPORT. What the taking of a block's oldest message answers, what the stages of a servo step leave, and the frames of its stage 8. -/

namespace Sys2Proof.Machine

set_option Elab.async false

/-! ## The oldest message of a block -/

/-- FC leaves everything as it is where a block's oldest message is of another kind, or there is none. -/
theorem takeFc_of_other {b : Block} {effect : FcMsg → Option (State → State)} {s : State}
    (h : ∀ m, (s.chan.toFc b).head? = some m → effect m = none) : takeFc b effect s = .next s := by
  cases hm : s.chan.toFc b with
  | nil => simp [takeFc, hm]
  | cons m rest => simp [takeFc, hm, h m (by simp [hm])]

/-- FC takes a block's oldest message on a running part. -/
theorem takeFc_of_head {b : Block} {effect : FcMsg → Option (State → State)} {s : State} {m : FcMsg} {rest : List FcMsg}
    {f : State → State} (hm : s.chan.toFc b = m :: rest) (hf : effect m = some f) (h : s.part.running = true) :
    takeFc b effect s = .next (f { s with chan := s.chan.dropFc b }) := by
  simp [takeFc, hm, hf, whileRunning, h]

/-- SU leaves everything as it is where a block's oldest message is of another kind, or there is none. -/
theorem takeSu_of_other {b : Block} {effect : SuMsg → Option (State → State)} {s : State}
    (h : ∀ m, (s.chan.toSu b).head? = some m → effect m = none) : takeSu b effect s = .next s := by
  cases hm : s.chan.toSu b with
  | nil => simp [takeSu, hm]
  | cons m rest => simp [takeSu, hm, h m (by simp [hm])]

/-- SU takes a block's oldest message on a running part. -/
theorem takeSu_of_head {b : Block} {effect : SuMsg → Option (State → State)} {s : State} {m : SuMsg} {rest : List SuMsg}
    {f : State → State} (hm : s.chan.toSu b = m :: rest) (hf : effect m = some f) (h : s.part.running = true) :
    takeSu b effect s = .next (f { s with chan := s.chan.dropSu b }) := by
  simp [takeSu, hm, hf, whileRunning, h]

/-! ## Stages 2 to 6 -/

/-- A rounded quotient is within half of the divisor of it, whichever way a tie goes. -/
theorem roundNearest_near (site : TieSite) (a b : Int) (hb : 0 < b) : (2 * (b * roundNearest site a b - a)).natAbs ≤ b.natAbs := by
  have h1 := Int.emod_add_mul_ediv a b
  have h2 := Int.emod_nonneg a (show b ≠ 0 by omega)
  have h3 := Int.emod_lt_of_pos a hb
  unfold roundNearest
  split
  · omega
  split
  · rw [Int.mul_add]; omega
  split
  · rw [Int.mul_add]; omega
  · omega

/-- A step's displacement is V × 5 ms rounded on each axis. -/
theorem displacement_near (v : Vec3) :
    (200 * (displacement v).x - v.x).natAbs ≤ 100 ∧ (200 * (displacement v).y - v.y).natAbs ≤ 100 ∧
    (200 * (displacement v).z - v.z).natAbs ≤ 100 := by
  have h (a : Int) := roundNearest_near .displacement a 200 (by omega)
  have hx := h v.x
  have hy := h v.y
  have hz := h v.z
  simp only [displacement]
  exact ⟨by omega, by omega, by omega⟩

theorem stepMotion_of_none {r : Record} {f : Fc} {a : Int} (h : f.p = none) :
    stepMotion r f a = { p := none, v := .zero, refused := false, moved := false, cap := speedCap r.motion f } := by
  simp [stepMotion, h]

/-- With the position valid a step is refused, P standing and V zero, or moves P by the displacement of its V. -/
theorem stepMotion_of_some {r : Record} {f : Fc} {a : Int} {p : Vec3} (h : f.p = some p) :
    let m := stepMotion r f a
    (m.refused = true ∧ m.p = some p ∧ m.v = .zero) ∨
    (m.refused = false ∧ m.p = some (p.add (displacement m.v)) ∧ stepPasses r.geometry a f.zones p (displacement m.v) = true) := by
  simp only [stepMotion, h]
  split
  · next hp => exact .inr ⟨rfl, rfl, hp⟩
  · exact .inl ⟨rfl, rfl, rfl⟩

/-! ## Stage 8 -/

theorem arrive_frame (r : RunRecord) (s : State) : FlightFrame s (arrive r s) := by
  unfold arrive
  refine .trans (frame_of_fc_ct s s.fc { s.ct with queue := s.ct.queue.tail, dwell := _ } ⟨rfl, rfl, rfl⟩ rfl) (enterHold_frame _ _)

theorem nextLeg_frame (leg : Leg) (s : State) : FlightFrame s (nextLeg leg s) := by
  unfold nextLeg
  split
  · next h => exact beginLeg_frame h
  · exact blockReturn_frame s

theorem completeLeg_frame (leg : Leg) (s : State) : FlightFrame s (completeLeg leg s) := by
  cases leg
  · exact nextLeg_frame _ _
  · exact nextLeg_frame _ _
  · exact enterSettle_frame s
  · exact .refl s

theorem modeTest_frame (p : Vec3) (s : State) : FlightFrame s (modeTest p s) := by
  unfold modeTest
  split
  · exact .ite (enterHold_frame _ _) (.refl s)
  · split
    · exact .ite (arrive_frame _ s) (.refl s)
    · exact .refl s
  · split
    · exact .ite (chooseAgain_frame s) (.refl s)
    · exact .refl s
  · exact .refl s
  · split
    · exact .ite (completeLeg_frame _ s) (.refl s)
    · exact .refl s
  all_goals exact .refl s

theorem refusedTest_frame (s : State) : FlightFrame s (refusedTest s) :=
  .ite (blockEviction_frame s) (.ite (blockReturn_frame s) (.refl s))

/-- Stage 8 changes nothing but what belongs to the mode, the shot queue and the targets handed to the links. -/
theorem stage8_frame (m : Motion) (s : State) : FlightFrame s (stage8 m s) := by
  unfold stage8
  split
  · exact .refl s
  · exact .ite (refusedTest_frame s) (modeTest_frame _ s)

/-- A refused step outside EVICT and the legs leaves the mode and everything else standing (log 15). -/
theorem stage8_of_refused {m : Motion} {s : State} (hr : m.refused = true) (he : s.fc.mode ≠ .evict) (hl : s.fc.mode.isLeg = false) :
    stage8 m s = s := by
  unfold stage8 refusedTest
  cases m.p <;> simp [hr, he, hl]

end Sys2Proof.Machine
end

