-- ==== Sys2Proof/Laws/Zones.lean ====
section
/-! SUPPORT. The Zone Table's operations: naming, slots, the change of a slot, the arming pass, and what the table hands on. -/

namespace Sys2Proof.Machine

set_option Elab.async false

/-! ## Naming -/

theorem onZone_of_names {s : State} {handle gen : Byte} {h : ZoneHandle} {z : Zone} (hn : NamesZone s handle gen h z)
    (act : ZoneHandle → Zone → Answer) : onZone handle gen s act = act h z := by
  obtain ⟨h1, h2⟩ := hn
  have h2' : s.zt.slots[h.val] = { generation := gen, zone := some z } := h2
  simp [onZone, Zt.zone, h2', h1]

theorem onZone_badField {s : State} {handle gen : Byte} (hl : 48 ≤ handle.toNat) (act : ZoneHandle → Zone → Answer) :
    onZone handle gen s act = refuse .badField s := by
  simp [onZone, Nat.not_lt.mpr hl]

theorem onZone_noZone {s : State} {handle gen : Byte} {h : ZoneHandle} (h1 : handle.toNat = h.val) (h2 : s.zt.zone h = none)
    (act : ZoneHandle → Zone → Answer) : onZone handle gen s act = refuse .noZone s := by
  have hl : handle.toNat < 48 := by rw [h1]; exact h.isLt
  have hh : (⟨handle.toNat, hl⟩ : ZoneHandle) = h := Fin.ext h1
  simp [onZone, hl, hh, h2]

theorem onZone_stale {s : State} {handle gen : Byte} {h : ZoneHandle} {z : Zone} (h1 : handle.toNat = h.val)
    (h2 : s.zt.zone h = some z) (h3 : s.zt.slots[h].generation ≠ gen) (act : ZoneHandle → Zone → Answer) :
    onZone handle gen s act = refuse .stale s := by
  have h3' : ¬ (s.zt.slots[h.val].generation = gen) := h3
  simp [onZone, h2, h1, h3']

/-! ## Slots and changes -/

@[simp] theorem Zt.zone_setZone_same (t : Zt) (h : ZoneHandle) (z : Option Zone) : (t.setZone h z).zone h = z := by
  simp [Zt.zone, Zt.setZone]

theorem Zt.zone_setZone_other (t : Zt) {h j : ZoneHandle} (z : Option Zone) (hj : j ≠ h) : (t.setZone h z).zone j = t.zone j := by
  unfold Zt.zone Zt.setZone
  simp only
  rw [put_other _ _ _ _ hj]

theorem Zt.slot_setZone_same (t : Zt) (h : ZoneHandle) (z : Option Zone) :
    (t.setZone h z).slots[h] = { t.slots[h] with zone := z } := put_same _ _ _

theorem Zt.slot_setZone_other (t : Zt) {h j : ZoneHandle} (z : Option Zone) (hj : j ≠ h) :
    (t.setZone h z).slots[j] = t.slots[j] := put_other _ _ _ _ hj

theorem Zt.generation_setZone (t : Zt) (h j : ZoneHandle) (z : Option Zone) :
    (t.setZone h z).slots[j].generation = t.slots[j].generation := by
  by_cases hj : j = h
  · rw [hj, Zt.slot_setZone_same]
  · rw [Zt.slot_setZone_other t z hj]

theorem ZtWork.zone_change_same (w : ZtWork) (h : ZoneHandle) (cls : ZoneClass) (kind : ChangeKind) (after : Option Zone) :
    (w.change h cls kind after).zt.zone h = after := Zt.zone_setZone_same _ _ _

theorem ZtWork.zone_change_other (w : ZtWork) {h j : ZoneHandle} (cls : ZoneClass) (kind : ChangeKind) (after : Option Zone)
    (hj : j ≠ h) : (w.change h cls kind after).zt.zone j = w.zt.zone j := Zt.zone_setZone_other _ _ hj

theorem ZtWork.generation_change (w : ZtWork) (h j : ZoneHandle) (cls : ZoneClass) (kind : ChangeKind) (after : Option Zone) :
    (w.change h cls kind after).zt.slots[j].generation = w.zt.slots[j].generation := Zt.generation_setZone _ _ _ _

/-- A change touches the slots and the queue alone. -/
theorem ZtWork.change_eq (w : ZtWork) (h : ZoneHandle) (cls : ZoneClass) (kind : ChangeKind) (after : Option Zone) :
    (w.change h cls kind after).zt =
      { w.zt with slots := (w.change h cls kind after).zt.slots, queue := (w.change h cls kind after).zt.queue } := rfl

@[simp] theorem ZtWork.change_overflowed (w : ZtWork) (h : ZoneHandle) (cls : ZoneClass) (kind : ChangeKind) (after : Option Zone) :
    (w.change h cls kind after).overflowed = w.overflowed := rfl

/-- The state of a slot is that of its zone. -/
theorem Zt.stateOf_eq (t : Zt) (h : ZoneHandle) : t.stateOf h = (t.zone h).map Zone.state := rfl

/-! ## The arming pass -/

/-- No PENDING zone of the queue has a clearance of at least STANDOFF. -/
def Zt.noneToArm (g : GeometryCfg) (t : Zt) : Prop :=
  ∀ h ∈ t.queue, ∀ z, t.zone h = some z → z.state = .pending → clearOf g.standoff z.clearance = false

/-- Then the arming pass does nothing. -/
theorem ZtWork.armingPass_idle {g : GeometryCfg} {w : ZtWork} (hw : w.zt.noneToArm g) : w.armingPass g = w := by
  have key : ∀ l : List ZoneHandle, (∀ h ∈ l, h ∈ w.zt.queue) → l.foldl (fun w h => w.armOne g h) w = w := by
    intro l
    induction l with
    | nil => intro _; rfl
    | cons a l ih =>
      intro hl
      have ha : w.armOne g a = w := by
        unfold ZtWork.armOne
        split
        · next z hz =>
          rw [if_neg]
          rintro ⟨h1, h2⟩
          have := hw a (hl a (by simp)) z hz h1
          simp [this] at h2
        · rfl
      simp only [List.foldl_cons, ha]
      exact ih (fun h hh => hl h (by simp [hh]))
  exact key _ (fun _ h => h)

/-- In a sound table no zone waits that could be armed (R51). -/
theorem ZoneTableSound.noneToArm {s : State} (hs : ZoneTableSound s) : s.zt.noneToArm s.cs.record.geometry := by
  obtain ⟨_, _, ha⟩ := hs
  intro h _ z hz hp
  cases hc : z.clearance with
  | none => rfl
  | some c => simp [clearOf, (ha h z c hz hc).2 hp]

/-! ## What the table hands on -/

/-- A request's change without an overflow, with one entry or more, is one report. -/
theorem handOn_report {w : ZtWork} {s : State} (ho : w.overflowed = false) (he : w.entries ≠ []) :
    handOn w s = handReport w.entries { s with zt := w.zt } := by
  unfold handOn
  simp [ho, he]

/-- A request's change after which no zone can be armed: one report with the entries made. -/
theorem carryOut_idle {w : ZtWork} {s : State} (hw : w.zt.noneToArm s.cs.record.geometry) (ho : w.overflowed = false)
    (he : w.entries ≠ []) :
    carryOut w s = handReport w.entries { s with zt := w.zt.setSubject s.cs.record.geometry } := by
  unfold carryOut ZtWork.settle
  rw [ZtWork.armingPass_idle hw]
  exact handOn_report ho he

end Sys2Proof.Machine
end

