-- ==== Sys2Proof/Tests/Slice0.lean ====
section
/-! SUPPORT. Tests: ill-formed commands are refused, worked cases of the spec, and for every statement with hypotheses a concrete state
and operands that meet them. -/

namespace Sys2Proof.Machine.Tests

set_option Elab.async false

/-! ## Well-formedness -/

theorem test_wf_rejects_no_bytes_received : (Instr.requestArrival .pilot []).wf = false := by decide
theorem test_wf_rejects_no_bytes_discarded : (Instr.badFrame .director []).wf = false := by decide
theorem test_wf_rejects_no_bytes_on_a_link : (Instr.stateFrame 0 []).wf = false := by decide
theorem test_wf_rejects_zero_bytes_sent : (Instr.transmitRoomFreed .safety 0).wf = false := by decide
theorem test_wf_rejects_more_bytes_than_a_buffer : (Instr.transmitRoomFreed .safety 513).wf = false := by decide
theorem test_wf_rejects_a_cause_raised_by_fc : (Instr.stopCauseRaise .fc).wf = false := by decide
theorem test_wf_rejects_a_cause_cleared_by_zt : (Instr.stopCauseClear .zt).wf = false := by decide
theorem test_wf_rejects_a_condition_raised_by_cs : (Instr.conditionRaiseAtSu .cs).wf = false := by decide
theorem test_wf_accepts_a_whole_buffer_sent : (Instr.transmitRoomFreed .safety 512).wf = true := by decide

/-! ## Small states -/

/-- A request handed to its owner on a port, with kind 10h and tag 7. -/
def handed (p : Port) (r : Request) (s : State) : State :=
  { s with cif := s.cif.setPort p { s.cif.port p with inProgress := some ⟨0x10#8, 7, .handed r⟩ } }

/-- Flight in a mode at a point, in µm, with nothing else. -/
def flying (m : Mode) (p : Vec3) (s : State) : State := { s with fc := { s.fc with mode := m, p := some p, causes := [] } }

/-- A zone in a slot with generation 1. -/
def withZone (h : ZoneHandle) (z : Zone) (s : State) : State :=
  { s with zt := { s.zt with slots := put s.zt.slots h { generation := 1, zone := some z } } }

/-- A cue in a slot with generation 1. -/
def withCue (h : CueHandle) (c : Cue) (s : State) : State :=
  { s with ct := { s.ct with slots := put s.ct.slots h { generation := 1, cue := some c } } }

/-- The state that a command leaves. -/
def after (c : Instr) (s : State) : State := match exec c s with | .next u => u | _ => s

/-- The body of the newest frame in a port's buffer: result, overrun flag and content of a response. -/
def answered (p : Port) (s : State) : List Byte := match (s.cif.port p).tx.getLast? with | some f => f.body | none => []

/-- A point 40 m, 30 m and 8 m from the origin, in µm: the point of most worked cases. -/
def point : Vec3 := ⟨40000000, 30000000, 8000000⟩

/-- A box of 1 m about 46 m from that point. -/
def farBox : Box := ⟨0, 1000, 0, 1000, 0, 1000⟩

def box0 : Box := ⟨36400, 38400, 29000, 31000, 0, 30000⟩

/-- A SUSPENDED PLAY zone of the director. -/
def playZone : Zone :=
  { state := .suspended, cls := .play, owner := .director, box := farBox, guard := 5000, hyst := 500, cap := 2000, group := 3,
    expiry := none, awaiting := false, relation := .off, clearance := none }

/-- A FIXED zone of SAFETY, SUSPENDED. -/
def fixedZone : Zone := { playZone with cls := .fixed, owner := .safety }

/-- A TEMPORARY zone of PILOT, SUSPENDED, that expires at clock value 10. -/
def tempZone : Zone := { playZone with cls := .temporary, owner := .pilot, expiry := some 10 }

/-- The zone PENDING while the position is invalid. -/
def pendingZone : Zone := { playZone with state := .pending, relation := .clear }

/-- A READY cue of the director: 12 m along x. -/
def cue0 : Cue :=
  { label := [0x41#8], target := ⟨52000, 30000, 8000⟩, cruise := 3000, tolerance := 100, dwell := 2000, owner := .director, blockers := 0 }

/-- An entry of the shot queue that names the cue of slot 0. -/
def entry0 (kind : StartKind) (status : EntryStatus) : QueueEntry := { handle := 0, generation := 1, kind := kind, status := status }

/-- A shot queue with the cue of slot 0, not halted. -/
def withQueue (q : List QueueEntry) (s : State) : State :=
  let s := withCue 0 cue0 s
  { s with ct := { s.ct with queue := q, halted := false } }

/-- All four links UP, all four drives in a status, all four lengths those of the point. -/
def linked (d : DriveStatus) (s : State) : State :=
  { s with
    fc := { s.fc with links := Vector.replicate 4 .up, driveStatus := Vector.replicate 4 (some d),
                      lengths := #v[some 56824, some 89605, some 103581, some 77000] } }

/-! ## Soundness of small states, by a check that can be evaluated -/

/-- The parts of ZoneTableSound, checked slot by slot. -/
def tableCheck (s : State) : Bool :=
  decide s.zt.queue.Nodup && decide (s.zt.queue.length ≤ 8) &&
  (List.finRange 48).all (fun h =>
    match s.zt.zone h with
    | none => decide (h ∉ s.zt.queue)
    | some z =>
      decide (h ∈ s.zt.queue ↔ z.state = .pending) &&
      (if z.state = .suspended then decide (z.clearance = none ∧ z.relation = .off)
       else decide (z.clearance = s.zt.clearanceTo s.cs.record.geometry z.box ∧ z.relation ≠ .off)) &&
      (match z.clearance with
       | none => true
       | some c =>
         decide (z.state = .armed → s.cs.record.geometry.standoff ≤ c) && decide (z.state = .pending → c < s.cs.record.geometry.standoff)))

theorem tableCheck_sound {s : State} (h : tableCheck s = true) : ZoneTableSound s := by
  simp only [tableCheck, Bool.and_eq_true, decide_eq_true_eq, List.all_eq_true] at h
  obtain ⟨⟨h1, h2⟩, h3⟩ := h
  refine ⟨⟨h1, h2, ?_⟩, ?_, ?_⟩
  · intro j
    have := h3 j (List.mem_finRange j)
    cases hz : s.zt.zone j with
    | none => simp only [hz, decide_eq_true_eq] at this; simp [Zt.stateOf, hz, this]
    | some z =>
      simp only [hz, Bool.and_eq_true, decide_eq_true_eq] at this
      simp [Zt.stateOf, hz, this.1.1]
  · intro j z hz
    have := h3 j (List.mem_finRange j)
    simp only [hz, Bool.and_eq_true] at this
    have hm := this.1.2
    constructor
    · intro hs; simp only [hs, if_false, decide_eq_true_eq] at hm; exact hm
    · intro hs; simp only [hs, if_true, decide_eq_true_eq] at hm; exact hm
  · intro j z c hz hc
    have := h3 j (List.mem_finRange j)
    simp only [hz, hc, Bool.and_eq_true, decide_eq_true_eq] at this
    exact this.2


/-! ## The hypotheses of the statements are met: the part, the start and the console ports -/

/-- The state after reset with the reset line asserted. -/
def heldInReset : State := { State.reset with part := { State.reset.part with resetLine := true } }

/-- The state after reset without supply. -/
def unsupplied : State := { State.reset with part := { State.reset.part with supply := false } }

/-- A stored image of the defaults with one FIXED zone. -/
def image0 : Image := { record := .default, zones := [{ box := box0, guard := 5000, hyst := 500, cap := 2000, group := 3 }] }

theorem test_met_front : ({ State.reset with pending := [.servoStep, .carry] } : State).pending = .servoStep :: [.carry] := rfl
theorem test_met_empty_queue : State.reset.pending = [] ∧ State.reset.part.supply = true ∧ State.reset.part.resetLine = false := by decide
theorem test_met_held : heldInReset.part.resetLine = true ∧ heldInReset.part.supply = true ∧ unsupplied.part.supply = false ∧
    unsupplied.part.resetLine = false ∧
    Instr.servoStep ∉ [Instr.powerOn, .powerLoss, .resetAsserted, .resetReleased, .estopAsserted, .estopReleased] := by decide

theorem test_met_start_by_restart :
    let s : State := { State.reset with part := { State.reset.part with restartAccepted := true } }
    s.part.supply = true ∧ s.part.resetLine = false ∧ s.part.restartAccepted = true ∧ s.cif.safety.inProgress = none ∧
    ∀ f ∈ s.cif.safety.tx, ¬ (f.notice = false ∧ f.kind = 0xE3#8 ∧ f.body.head? = some 0#8) := by decide
theorem test_met_start_with_an_image :
    let s : State := { unsupplied with cs := { unsupplied.cs with flash := .holds image0 } }
    s.part.resetLine = false ∧ s.cs.flash = .holds image0 ∧ imagePasses image0 = true := by decide +kernel
theorem test_met_start_with_a_bad_image :
    let i : Image := { image0 with zones := [{ box := box0, guard := 499, hyst := 500, cap := 2000, group := 3 }] }
    let s : State := { heldInReset with cs := { heldInReset.cs with flash := .holds i } }
    s.part.resetLine = true ∧ s.part.supply = true ∧ s.cs.flash = .holds i ∧ imagePasses i = false := by decide +kernel

/-- A state that is writing the image. -/
def savingNow : State := { State.reset with cs := { State.reset.cs with save := .saving image0 300, flash := .incomplete } }

theorem test_met_restart_while_saving : Asked (handed .safety .restart savingNow) .safety .restart ∧
    (handed .safety .restart savingNow).cs.save ≠ .idle := ⟨rfl, by decide⟩
theorem test_met_restart_in_flight :
    let s := handed .safety .restart (flying .hold point State.reset)
    Asked s .safety .restart ∧ s.cs.save = .idle ∧ s.fc.mode ≠ .parked ∧ s.fc.mode ≠ .stopped := ⟨rfl, by decide⟩
theorem test_met_restart_parked :
    let s := handed .safety .restart (flying .parked point State.reset)
    Asked s .safety .restart ∧ s.cs.save = .idle ∧ s.fc.mode = .parked := ⟨rfl, by decide⟩
theorem test_met_restart_stopped :
    let s := handed .safety .restart State.reset
    Asked s .safety .restart ∧ s.cs.save = .idle ∧ s.fc.mode = .stopped := ⟨rfl, by decide⟩

theorem test_met_not_enabled :
    let s := State.reset
    NotAsked s .pilot ∧ s.cif.pilot.gapTimer = none ∧ s.ct.dwell = none ∧ s.fc.deadman = none ∧ s.fc.launchTimer = none ∧
    s.fc.settleTimer = none ∧ s.lm.winches[0].slack = .clear ∧ s.lm.winches[0].follow = .clear ∧ s.cs.save = .idle ∧
    s.wlc[0].windowClosed < 20 ∧ s.wlc[0].query = none ∧ s.chan.fcToZt = [] ∧ s.chan.ztToCt = [] ∧ s.chan.notices = [] ∧
    s.part.restartAccepted = false := ⟨rfl, by decide⟩
theorem test_met_other_request : Asked (handed .pilot .hold State.reset) .pilot .hold ∧
    Request.hold.command .pilot ≠ Request.flightRead.command .pilot := ⟨rfl, by decide⟩
theorem test_met_no_period :
    ({ State.reset with su := { State.reset.su with driven := .off } } : State).su.driven = .off ∧
    ({ State.reset with su := { State.reset.su with driven := .steady } } : State).su.driven = .steady ∧
    ({ State.reset with chan := { State.reset.chan with fcToCt := [] } } : State).chan.fcToCt = [] := ⟨rfl, rfl, rfl⟩

/-- A state whose PILOT port is in a given state. -/
def onPilot (q : PortState) : State := { State.reset with cif := { State.reset.cif with pilot := q } }

/-- A port with a CLOCK READ in progress. -/
def asking : PortState := { PortState.reset with inProgress := some ⟨0x22, 7, .handed .clockRead⟩ }

/-- A waiting CLOCK READ. -/
def waitingRead : QueuedRequest := { kind := 0x22, tag := 8, body := [] }

/-- A response frame of a given content length. -/
def longResponse (n : Nat) : TxFrame := responseFrame 0x22 1 .ok false (List.replicate n 0)

theorem test_met_answer_alone :
    (onPilot asking).cif.pilot.inProgress = some ⟨0x22, 7, .handed .clockRead⟩ ∧ (onPilot asking).cif.pilot.queue = [] ∧
    (onPilot asking).cif.pilot.used + (8 + 238) ≤ 512 := by decide
theorem test_met_answer_then_next :
    let s := onPilot { asking with queue := [waitingRead] }
    s.part.restartAccepted = false ∧ s.cif.pilot.queue = waitingRead :: [] ∧ checkRequest .pilot waitingRead = .inl .clockRead := by
  decide
theorem test_met_answer_waits :
    let q : PortState := { asking with tx := [longResponse 238, longResponse 238] }
    (onPilot q).cif.pilot.inProgress = some ⟨0x22, 7, .handed .clockRead⟩ ∧ 512 < q.used + (8 + 13) ∧
    ∀ f ∈ q.tx, f.notice = false := by decide +kernel

theorem test_met_kinds :
    parseRequest 0x46#8 [1] = none ∧ parseRequest 0x46#8 [] = some .flightRead ∧
    (0x46#8).toNat = 0x46 ∧ (0x20#8).toNat = 0x20 ∧ (0x0F#8).toNat = 0x0F := by decide

theorem test_met_arrival :
    let s := State.reset
    s.part.supply = true ∧ s.part.resetLine = false ∧ (List.replicate 240 (0#8)).length ≤ 240 ∧ s.cif.pilot.rx = .hunt ∧
    s.cif.pilot.inProgress = none ∧ s.cif.pilot.queue = [] ∧ s.part.restartAccepted = false ∧
    checkRequest .pilot { kind := 0x22, tag := 7, body := [] } = .inl .clockRead ∧
    checkRequest .pilot { kind := 0x22, tag := 7, body := List.replicate 240 0 } = .inr .badField ∧ s.cif.pilot.used + 8 ≤ 512 := by
  decide +kernel
theorem test_met_arrival_behind_others :
    let q : PortState := { asking with queue := [waitingRead, waitingRead, waitingRead] }
    (onPilot q).cif.pilot.rx = .hunt ∧ q.inProgress.isSome = true ∧ q.queue.length < 4 ∧
    4 ≤ (q.queue ++ [waitingRead]).length ∧ q.used + 8 ≤ 512 := by decide

theorem test_met_bad_frames :
    let s := onPilot { PortState.reset with rx := .length, gapTimer := some 10, badFrames := 65535 }
    (0 : BitVec 16) ≠ requestCrc 0x22 7 [] ∧ 240 < (241#8).toNat ∧ s.cif.pilot.rx ≠ .hunt ∧ s.cif.pilot.gapTimer = some 10 ∧
    s.part.supply = true ∧ s.part.resetLine = false := by decide +kernel

/-- A port whose last response waits behind two long ones. -/
def waitingPort : PortState :=
  { PortState.reset with
    tx := [longResponse 238, longResponse 238],
    inProgress := some ⟨0x22, 7, .waiting { kind := 0xA2, tag := 7, result := .ok, content := List.replicate 238 0 }⟩ }

theorem test_met_room_freed :
    waitingPort.responseWaits = true ∧ PortState.reset.responseWaits = false ∧ waitingPort.queue = [] ∧
    waitingPort.txSent + 246 ≤ (waitingPort.tx.map TxFrame.size).sum ∧ waitingPort.used - 246 + (8 + 238) ≤ 512 ∧
    (List.replicate 238 (0 : Byte)).length ≤ 238 := by decide +kernel
theorem test_met_notices :
    let s : State := { State.reset with chan := { State.reset.chan with notices := [.queueChanged 0 none true] } }
    s.chan.notices = .queueChanged 0 none true :: [] ∧ s.part.supply = true ∧ s.part.resetLine = false := ⟨rfl, rfl, rfl⟩
theorem test_met_make_room :
    PortState.reset.fits 246 = true ∧ waitingPort.fits 246 = false ∧ 0 < ({ waitingPort with txSent := 1 } : PortState).txSent := by
  decide +kernel

/-! ## The hypotheses of the statements are met: the Zone Table and the zone clock -/

/-- A box of the volume that the envelope at the point overlaps. -/
def nearBox : Box := ⟨39000, 41000, 29000, 31000, 0, 30000⟩

/-- ZT has the point from a valid report with A = 0. -/
def seen (s : State) : State := { s with zt := { s.zt with report := { p := some point, a := 0 } } }

/-- The first n slots hold PENDING zones, in that order in the pending queue; the position is invalid. -/
def pendingFirst (n : Nat) (s : State) : State :=
  { s with
    zt := { s.zt with
      slots := Vector.ofFn (fun h : ZoneHandle => if h.val < n then { generation := 1, zone := some pendingZone } else ⟨0, none⟩),
      queue := (List.finRange 48).take n } }

/-- Every slot holds the zone. -/
def everySlot (z : Zone) (s : State) : State :=
  { s with zt := { s.zt with slots := Vector.replicate 48 { generation := 1, zone := some z } } }

/-- The zone in force at the point: its clearance is 1,000 mm, so it is ARMED and NEAR. -/
def armedZone : Zone := { playZone with state := .armed, box := box0, relation := .near, clearance := some 1000 }

/-- The zone in force that the envelope at the point overlaps: PENDING and NEAR. -/
def blockedZone : Zone :=
  { playZone with state := .pending, box := nearBox, relation := .near, clearance := some (clearance .default point 0 nearBox) }

/-- Slot 0 holds the ARMED zone at the point. -/
def withArmed (s : State) : State := withZone 0 armedZone (seen s)

/-- Slot 0 holds the zone that waits at the point. -/
def withBlocked (s : State) : State :=
  let s := withZone 0 blockedZone (seen s)
  { s with zt := { s.zt with queue := [0], subject := some 0 } }

theorem test_met_naming_a_zone :
    let r (h g : Byte) : Request := .zoneRead h g
    let s (h g : Byte) := handed .pilot (r h g) (withZone 47 playZone State.reset)
    Asked (s 48 1) .pilot (r 48 1) ∧ (r 48 1).zoneName = some (48, 1) ∧ 48 ≤ (48#8).toNat ∧
    (47#8).toNat = (47 : ZoneHandle).val ∧ (s 46 1).zt.zone 46 = none ∧ (s 47 2).zt.zone 47 = some playZone ∧
    (s 47 2).zt.slots[(47 : ZoneHandle)].generation ≠ 2#8 ∧ NamesZone (s 47 1) 47 1 47 playZone :=
  ⟨rfl, rfl, by decide, rfl, rfl, rfl, by decide, rfl, rfl⟩

/-- A ZONE PUT of DIRECTOR with the fields of the play zone. -/
def putPlay (life : Option Int) : Request := .zonePut 1 farBox 5000 500 2000 (some 7) life

theorem test_met_put_on_each_clearance :
    let s := handed .director (putPlay (some 36000)) (seen State.reset)
    let m := s.cs.record.matrix
    let g := s.cs.record.geometry
    Asked s .director (putPlay (some 36000)) ∧ classOf 1 = some .play ∧ rowGrants (zoneRow m .play .put) .director true = true ∧
    boxFits g farBox = true ∧ guardAndCapFit g s.cs.record.motion 5000 2000 = true ∧ hystInRange 500 = true ∧ (7#8).toNat ≤ 7 ∧
    putLifeFits .play (some 36000) = true ∧ putLifeFits .play (some 10) = true ∧ putLifeFits .play none = true ∧
    ¬ (ZoneClass.play = .fixed ∧ 16 ≤ s.zt.fixedCount) ∧ s.zt.zone 0 = none ∧
    clearOf g.standoff (s.zt.clearanceTo g farBox) = true ∧ clearOf g.standoff (s.zt.clearanceTo g nearBox) = false ∧
    boxFits g nearBox = true ∧ s.zt.queue.length + s.zt.close g + 1 ≤ 8 ∧ ZoneTableSound s :=
  ⟨rfl, by decide +kernel, by decide +kernel, by decide +kernel, by decide +kernel, by decide +kernel, by decide, by decide +kernel,
   by decide +kernel, by decide +kernel, by decide, rfl, by decide +kernel, by decide +kernel, by decide +kernel, by decide +kernel,
   tableCheck_sound (by decide +kernel)⟩
theorem test_met_put_ill_class_and_life :
    classOf 3 = none ∧ putLifeFits .play (some 36001) = false ∧ putLifeFits .play (some 9) = false ∧
    putLifeFits .fixed (some 10) = false ∧ rowGrants (zoneRow .default .fixed .put) .director true = false ∧ ¬ (8#8).toNat ≤ 7 := by
  decide +kernel
theorem test_met_put_class_full :
    let s := everySlot fixedZone State.reset
    16 ≤ s.zt.fixedCount ∧ rowGrants (zoneRow s.cs.record.matrix .fixed .put) .safety true = true ∧ putLifeFits .fixed none = true := by
  decide +kernel
theorem test_met_put_table_full (h : ZoneHandle) : (everySlot playZone State.reset).zt.zone h ≠ none := by
  revert h; decide +kernel
theorem test_met_put_pending_full :
    let s := pendingFirst 8 State.reset
    let g := s.cs.record.geometry
    s.zt.zone 8 = none ∧ clearOf g.standoff (s.zt.clearanceTo g farBox) = false ∧ 8 < s.zt.queue.length + s.zt.close g + 1 ∧
    (∀ j : ZoneHandle, j < 8 → s.zt.zone j ≠ none) := by decide +kernel
theorem test_met_put_last_place :
    let s := pendingFirst 7 State.reset
    s.zt.zone 7 = none ∧ s.zt.queue.length + s.zt.close s.cs.record.geometry + 1 ≤ 8 ∧ ZoneTableSound s :=
  ⟨by decide +kernel, by decide +kernel, tableCheck_sound (by decide +kernel)⟩
theorem test_met_denied_cells :
    let s := withZone 0 playZone State.reset
    (zoneRow s.cs.record.matrix .play .put).pilot = .no ∧ (zoneRow s.cs.record.matrix .temporary .put).director = .owned ∧
    tempZone.owner ≠ .director ∧ (Request.zoneDrop 0 1).zoneOp = some .drop ∧
    Asked (handed .pilot (.zoneDrop 0 1) s) .pilot (.zoneDrop 0 1) := ⟨rfl, rfl, by decide, rfl, rfl⟩

/-- A ZONE SHIFT of the zone in slot 0 to a box. -/
def shiftTo (box : Box) : Request := .zoneShift 0 1 box none none none

theorem test_met_shift_of_fixed :
    let z : Zone := { fixedZone with state := .armed }
    let s := handed .safety (shiftTo farBox) (withZone 0 z State.reset)
    Asked s .safety (shiftTo farBox) ∧ NamesZone s 0 1 0 z ∧ zoneGranted s .safety .put z = true ∧ z.state ≠ .suspended :=
  ⟨rfl, ⟨rfl, rfl⟩, by decide +kernel, by decide⟩
theorem test_met_shift_of_armed :
    let s := handed .director (shiftTo farBox) (withArmed State.reset)
    let g := s.cs.record.geometry
    Asked s .director (shiftTo farBox) ∧ NamesZone s 0 1 0 armedZone ∧ zoneGranted s .director .put armedZone = true ∧
    boxFits g farBox = true ∧ boxFits g nearBox = true ∧ guardCapHolds g s.cs.record.motion 5000 2000 = true ∧
    below g.standoff (s.zt.clearanceTo g farBox) = false ∧ below g.standoff (s.zt.clearanceTo g nearBox) = true ∧
    ¬ 8 < s.zt.queue.length + s.zt.close g + 1 ∧ boxFits g ⟨0, 0, 0, 0, 0, 0⟩ = false ∧ ZoneTableSound s :=
  ⟨rfl, ⟨rfl, rfl⟩, by decide +kernel, by decide +kernel, by decide +kernel, by decide +kernel, by decide +kernel, by decide +kernel,
   by decide +kernel, by decide +kernel, tableCheck_sound (by decide +kernel)⟩
theorem test_met_shift_of_pending :
    let s := handed .director (shiftTo farBox) (withBlocked State.reset)
    let g := s.cs.record.geometry
    NamesZone s 0 1 0 blockedZone ∧ clearOf g.standoff (s.zt.clearanceTo g farBox) = true ∧
    clearOf g.standoff (s.zt.clearanceTo g nearBox) = false ∧ ZoneTableSound s :=
  ⟨⟨rfl, rfl⟩, by decide +kernel, by decide +kernel, tableCheck_sound (by decide +kernel)⟩
theorem test_met_shift_of_suspended :
    let s := handed .director (shiftTo farBox) (withZone 0 playZone (seen State.reset))
    NamesZone s 0 1 0 playZone ∧ playZone.state = .suspended ∧ ZoneTableSound s :=
  ⟨⟨rfl, rfl⟩, rfl, tableCheck_sound (by decide +kernel)⟩
theorem test_met_shift_without_place :
    let b : Zone := { blockedZone with clearance := some (clearance .default point 0 nearBox) }
    let s0 := withArmed State.reset
    let s : State := { s0 with
      zt := { s0.zt with
        slots := Vector.ofFn (fun h : ZoneHandle =>
          if h = 0 then ⟨1, some armedZone⟩ else if h.val < 9 then ⟨1, some b⟩ else ⟨0, none⟩),
        queue := (List.finRange 48).filter (fun h => decide (0 < h.val ∧ h.val < 9)) } }
    let g := s.cs.record.geometry
    NamesZone s 0 1 0 armedZone ∧ below g.standoff (s.zt.clearanceTo g nearBox) = true ∧ 8 < s.zt.queue.length + s.zt.close g + 1 ∧
    ZoneTableSound s :=
  ⟨⟨rfl, rfl⟩, by decide +kernel, by decide +kernel, tableCheck_sound (by decide +kernel)⟩

theorem test_met_renew (life : Int) :
    let s := handed .director (.zoneRenew 0 1 life) (withZone 0 playZone State.reset)
    Asked s .director (.zoneRenew 0 1 life) ∧ NamesZone s 0 1 0 playZone ∧ zoneGranted s .director .put playZone = true ∧
    (life = 10 ∨ life = 36000 → playZone.cls = .play ∧ 10 ≤ life ∧ life ≤ 36000) ∧
    (life = 9 ∨ life = 36001 → ¬ (10 ≤ life ∧ life ≤ 36000)) :=
  ⟨rfl, ⟨rfl, rfl⟩, rfl, fun h => ⟨rfl, by omega, by omega⟩, fun h => by omega⟩
theorem test_met_renew_of_other_classes (life : Int) :
    let s (z : Zone) := handed .safety (.zoneRenew 0 1 life) (withZone 0 z State.reset)
    NamesZone (s tempZone) 0 1 0 tempZone ∧ NamesZone (s fixedZone) 0 1 0 fixedZone ∧ tempZone.cls = .temporary ∧
    fixedZone.cls = .fixed ∧ (life = 10 ∨ life = 6000 → 10 ≤ life ∧ life ≤ 6000) ∧ (life = 9 ∨ life = 6001 → ¬ (10 ≤ life ∧ life ≤ 6000)) ∧
    zoneGranted (s tempZone) .director .put tempZone = false :=
  ⟨⟨rfl, rfl⟩, ⟨rfl, rfl⟩, rfl, rfl, fun h => by omega, fun h => by omega, rfl⟩

theorem test_met_suspend_and_drop :
    let s (r : Request) := handed .safety r (withArmed State.reset)
    Asked (s (.zoneSuspend 0 1)) .safety (.zoneSuspend 0 1) ∧ Asked (s (.zoneDrop 0 1)) .safety (.zoneDrop 0 1) ∧
    NamesZone (s (.zoneDrop 0 1)) 0 1 0 armedZone ∧ zoneGranted (s (.zoneDrop 0 1)) .safety .drop armedZone = true ∧
    zoneGranted (s (.zoneSuspend 0 1)) .safety .suspend armedZone = true ∧ ZoneTableSound (s (.zoneSuspend 0 1)) ∧
    ZoneTableSound (s (.zoneDrop 0 1)) :=
  ⟨rfl, rfl, ⟨rfl, rfl⟩, by decide +kernel, by decide +kernel, tableCheck_sound (by decide +kernel), tableCheck_sound (by decide +kernel)⟩
theorem test_met_suspend_and_resume_of_suspended :
    let s (r : Request) := handed .safety r (withZone 0 playZone (seen State.reset))
    let g := (s (.zoneResume 0 1)).cs.record.geometry
    Asked (s (.zoneResume 0 1)) .safety (.zoneResume 0 1) ∧ NamesZone (s (.zoneResume 0 1)) 0 1 0 playZone ∧
    zoneGranted (s (.zoneResume 0 1)) .safety .suspend playZone = true ∧ playZone.state = .suspended ∧
    clearOf g.standoff ((s (.zoneResume 0 1)).zt.clearanceTo g playZone.box) = true ∧ ZoneTableSound (s (.zoneResume 0 1)) ∧
    ZoneTableSound (s (.zoneSuspend 0 1)) :=
  ⟨rfl, ⟨rfl, rfl⟩, by decide +kernel, rfl, by decide +kernel, tableCheck_sound (by decide +kernel), tableCheck_sound (by decide +kernel)⟩
theorem test_met_resume_at_the_last_places :
    let s (n : Nat) := withZone 47 playZone (pendingFirst n State.reset)
    let g := (s 8).cs.record.geometry
    clearOf g.standoff ((s 8).zt.clearanceTo g playZone.box) = false ∧ 8 < (s 8).zt.queue.length + (s 8).zt.close g + 1 ∧
    (s 7).zt.queue.length + (s 7).zt.close g + 1 ≤ 8 ∧ NamesZone (s 7) 47 1 47 playZone ∧ ZoneTableSound (s 7) :=
  ⟨by decide +kernel, by decide +kernel, by decide +kernel, ⟨rfl, rfl⟩, tableCheck_sound (by decide +kernel)⟩

theorem test_met_zone_reads :
    Asked (handed .pilot (.zoneRead 0 1) (withArmed State.reset)) .pilot (.zoneRead 0 1) ∧
    NamesZone (handed .pilot (.zoneRead 0 1) (withArmed State.reset)) 0 1 0 armedZone ∧
    Asked (handed .pilot (.zoneList 0x0E 0x07) State.reset) .pilot (.zoneList 0x0E 0x07) ∧
    0x0E#8 &&& 0x0E#8 = 0x0E#8 ∧ 0x07#8 &&& 0x07#8 = 0x07#8 ∧ 0x01#8 &&& 0x0E#8 ≠ 0x01#8 ∧ 0x08#8 &&& 0x07#8 ≠ 0x08#8 :=
  ⟨rfl, ⟨rfl, rfl⟩, rfl, by decide⟩

theorem test_met_group_suspend :
    let s := handed .safety (.groupSuspend 3) (withArmed State.reset)
    Asked s .safety (.groupSuspend 3) ∧ 1 ≤ (3#8).toNat ∧ (3#8).toNat ≤ 7 ∧ ZoneTableSound s ∧ armedZone.group = (3#8).toNat ∧
    ¬ (1 ≤ (0#8).toNat ∧ (0#8).toNat ≤ 7) ∧ ¬ (1 ≤ (8#8).toNat ∧ (8#8).toNat ≤ 7) ∧ 1 ≤ (1#8).toNat ∧ (7#8).toNat ≤ 7 :=
  ⟨rfl, by decide, by decide, tableCheck_sound (by decide +kernel), rfl, by decide, by decide, by decide, by decide⟩
theorem test_met_group_resume :
    let s := handed .safety (.groupResume 3) (withZone 0 playZone State.reset)
    Asked s .safety (.groupResume 3) ∧ ZoneTableSound s ∧ clearOf 500 (s.zt.clearanceTo s.cs.record.geometry playZone.box) = false ∧
    s.zt.queue.length + s.zt.close s.cs.record.geometry + 1 ≤ 8 :=
  ⟨rfl, tableCheck_sound (by decide +kernel), by decide +kernel, by decide +kernel⟩
theorem test_met_group_resume_without_places :
    let s := handed .safety (.groupResume 3) (withZone 47 playZone (pendingFirst 8 State.reset))
    Asked s .safety (.groupResume 3) ∧ 8 < s.zt.queue.length + s.zt.close s.cs.record.geometry + 1 ∧
    clearOf 500 (s.zt.clearanceTo s.cs.record.geometry playZone.box) = false := ⟨rfl, by decide +kernel, by decide +kernel⟩

/-- The zone clock frozen or not, with or without a held carry. -/
def clockAs (frozen held : Bool) (s : State) : State := { s with zt := { s.zt with frozen := frozen, held := held } }

theorem test_met_clock_requests (frozen held : Bool) :
    let s (r : Request) := handed .director r (clockAs frozen held State.reset)
    Asked (s .clockRead) .director .clockRead ∧ Asked (s .clockFreeze) .director .clockFreeze ∧
    Asked (s .clockThaw) .director .clockThaw ∧ (s .clockThaw).zt.frozen = frozen ∧ (s .clockThaw).zt.held = held := by
  exact ⟨rfl, rfl, rfl, rfl, rfl⟩
/-- No zone expires at the next value of the clock after reset. -/
theorem test_met_no_expiry (h : ZoneHandle) (z : Zone) : State.reset.zt.zone h = some z → z.expiry ≠ some (State.reset.zt.clock + 1) := by
  intro hz; revert h; simp [State.reset, Zt.reset, Zt.zone]

theorem test_met_carry_with_an_expiry :
    let s0 := withZone 47 tempZone State.reset
    let s : State := { s0 with zt := { s0.zt with clock := 9 } }
    s.part.supply = true ∧ s.part.resetLine = false ∧ ZoneTableSound s ∧ s.zt.frozen = false ∧ s.zt.zone 47 = some tempZone ∧
    tempZone.expiry = some (s.zt.clock + 1) :=
  ⟨rfl, rfl, tableCheck_sound (by decide +kernel), rfl, rfl, by decide⟩

theorem test_met_position_reports :
    let r (p : Option Vec3) : PositionReport := { p := p, a := 0 }
    let s (p : Option Vec3) : State :=
      { withBlocked State.reset with chan := { State.reset.chan with fcToZt := [r p] } }
    (s none).chan.fcToZt = r none :: [] ∧ (s (some point)).chan.fcToZt = r (some point) :: [] ∧ (s none).part.supply = true ∧
    PendingQueueSound (s (some point)) :=
  ⟨rfl, rfl, rfl, (tableCheck_sound (by decide +kernel) : ZoneTableSound (withBlocked State.reset)).1⟩

/-! ## The hypotheses of the statements are met: cues, the shot queue and flight -/

/-- A CUE STORE with the fields of the cue. -/
def storeAt (h : Byte) : Request := .cueStore h [0x41, 0x42] ⟨52000, 30000, 8000⟩ 3000 100 2000

theorem test_met_store_fields (n : Int) :
    let g := State.reset.cs.record.geometry
    (List.replicate 12 (0x20#8)).length ≤ 12 ∧ (∀ b ∈ [0x20#8, 0x7E#8], 0x20 ≤ b.toNat ∧ b.toNat ≤ 0x7E) ∧
    insideVolume g 0 (pointUm ⟨52000, 30000, 8000⟩) = true ∧ insideVolume g 0 (pointUm ⟨0, 0, 2500⟩) = true ∧
    insideVolume g 0 (pointUm ⟨0, 0, 2499⟩) = false ∧ (n = 200 ∨ n = 9000 → 200 ≤ n ∧ n ≤ 9000) ∧ (n = 50 ∨ n = 1000 → 50 ≤ n ∧ n ≤ 1000) ∧
    (n = 0 ∨ n = 600000 → 0 ≤ n ∧ n ≤ 600000) :=
  ⟨by decide, by decide, by decide +kernel, by decide +kernel, by decide +kernel, fun h => by omega, fun h => by omega,
   fun h => by omega⟩
theorem test_met_store :
    let s (b : Byte) := handed .director (storeAt b) State.reset
    Asked (s 0xFF) .director (storeAt 0xFF) ∧ 32 ≤ (32#8).toNat ∧ 32#8 ≠ 0xFF#8 ∧ (31#8).toNat = (31 : CueHandle).val ∧
    (s 31).ct.cue 31 = none ∧ rowGrants (s 31).cs.record.matrix.cue .director true = true ∧
    rowGrants (s 31).cs.record.matrix.cue .pilot true = false ∧ (∀ j : CueHandle, j < 0 → (s 0xFF).ct.cue j ≠ none) :=
  ⟨rfl, by decide, by decide, rfl, by decide +kernel, by decide +kernel, by decide +kernel, by decide +kernel⟩
theorem test_met_store_into_a_full_table :
    let t : Ct := { State.reset.ct with slots := Vector.replicate 32 { generation := 1, cue := some cue0 } }
    ∀ h : CueHandle, t.cue h ≠ none := by decide +kernel
theorem test_met_store_over_a_running_cue :
    let s := withQueue [entry0 .auto .running] State.reset
    ∃ e ∈ s.ct.queue, e.status = .running ∧ e.handle = 0 ∧ e.generation = s.ct.slots[(0 : CueHandle)].generation :=
  ⟨entry0 .auto .running, by decide +kernel⟩

theorem test_met_naming_a_cue :
    let r (h g : Byte) : Request := .cueRead h g
    let s (h g : Byte) := handed .pilot (r h g) (withCue 31 cue0 State.reset)
    Asked (s 32 1) .pilot (r 32 1) ∧ (r 32 1).cueName = some (32, 1) ∧ 32 ≤ (32#8).toNat ∧ (31#8).toNat = (31 : CueHandle).val ∧
    (s 30 1).ct.cue 30 = none ∧ (s 31 2).ct.cue 31 ≠ none ∧ (s 31 2).ct.slots[(31 : CueHandle)].generation ≠ 2#8 :=
  ⟨rfl, rfl, by decide, rfl, by decide +kernel, by decide +kernel, by decide +kernel⟩
theorem test_met_naming_a_cue_for_the_queue :
    Asked (handed .director (.queueAdd 0 1 1) State.reset) .director (.queueAdd 0 1 1) ∧ (1#8).toNat ≤ 1 ∧
    queueGrants State.reset.cs.record.matrix.queueAdd .director = true := ⟨rfl, by decide, by decide⟩

/-- The shot queue with a running head, in CUE at the point. -/
def shooting : State :=
  let s := flying .cue point (withQueue [entry0 .auto .running, entry0 .call .waiting] State.reset)
  { s with fc := { s.fc with run := some ⟨0, 1, cue0.target, 3000, 100⟩ } }

/-- The shot queue with a waiting AUTO head, in HOLD at the point. -/
def holding : State := flying .hold point (withQueue [entry0 .auto .waiting] State.reset)

theorem test_met_cue_drop :
    let s := handed .director (.cueDrop 0 1) shooting
    Asked s .director (.cueDrop 0 1) ∧ NamesCue s 0 1 0 cue0 ∧ rowGrants s.cs.record.matrix.cue .director true = true ∧
    rowGrants s.cs.record.matrix.cue .pilot false = false ∧ ShotQueueSound s ∧ (∃ e ∈ s.ct.queue, e.status = .running) :=
  ⟨rfl, ⟨rfl, rfl⟩, by decide, by decide, by unfold ShotQueueSound; decide +kernel, by decide +kernel⟩
theorem test_met_cue_drop_without_entries :
    let s := handed .director (.cueDrop 0 1) (withQueue [] State.reset)
    Asked s .director (.cueDrop 0 1) ∧ NamesCue s 0 1 0 cue0 ∧ s.ct.queue = [] := ⟨rfl, ⟨rfl, rfl⟩, rfl⟩
theorem test_met_cue_and_queue_reads :
    Asked (handed .pilot (.cueRead 0 1) shooting) .pilot (.cueRead 0 1) ∧ NamesCue (handed .pilot (.cueRead 0 1) shooting) 0 1 0 cue0 ∧
    Asked (handed .pilot (.cueList 6) shooting) .pilot (.cueList 6) ∧ Asked (handed .pilot .queueRead shooting) .pilot .queueRead ∧
    6#8 &&& 0x06#8 = 6#8 ∧ 1#8 &&& 0x06#8 ≠ 1#8 := ⟨rfl, ⟨rfl, rfl⟩, rfl, rfl, by decide, by decide⟩

/-- No zone is in force in FC's copy, so every path is clear. -/
theorem test_met_path_clear (goal : Vec3) : PathClear State.reset point goal := by
  unfold PathClear pathCheck
  rw [List.findSome?_eq_none_iff]
  intro q _
  rfl

/-- FC's copy holds an ARMED zone on the way from the point to the cue. -/
def onTheWay : ForceZone :=
  { handle := 5, generation := 1, state := .armed, box := ⟨45000, 47000, 29000, 31000, 0, 30000⟩, guard := 5000, hyst := 500, cap := 2000,
    clearance := some 4400 }

theorem test_met_path_not_clear :
    (pathCheck .default 0 [onTheWay] point (pointUm cue0.target)).isSome = true := by decide +kernel

theorem test_met_queue_add :
    let s (q : List QueueEntry) := handed .director (.queueAdd 0 1 0) (flying .hold point (withQueue q State.reset))
    Asked (s []) .director (.queueAdd 0 1 0) ∧ startKindOf 0 = some .auto ∧ NamesCue (s []) 0 1 0 cue0 ∧
    (s []).ct.queue = [] ∧ (s []).fc.mode = .hold ∧ (s []).fc.latch = false ∧ (s []).ct.halted = false ∧ (s []).ct.dwell = none ∧
    cue0.blockers = 0 ∧ 6 ≤ (s (List.replicate 6 (entry0 .auto .waiting))).ct.queue.length ∧
    (s (List.replicate 5 (entry0 .auto .waiting))).ct.queue.length < 6 :=
  ⟨rfl, rfl, ⟨rfl, rfl⟩, rfl, rfl, rfl, rfl, rfl, rfl, by decide, by decide⟩
theorem test_met_dwell_expiry :
    let s : State := { holding with ct := { holding.ct with dwell := some 2000 } }
    s.part.supply = true ∧ s.ct.dwell = some 2000 ∧ s.ct.queue = entry0 .auto .waiting :: [] ∧ s.fc.mode = .hold ∧
    s.fc.latch = false ∧ s.ct.halted = false ∧ s.ct.cue 0 = some cue0 := ⟨rfl, rfl, rfl, rfl, rfl, rfl, rfl⟩
theorem test_met_dwell_expiry_without_a_start :
    let s : State := { shooting with ct := { shooting.ct with dwell := some 2000 } }
    s.ct.dwell = some 2000 ∧ s.ct.queue.head? = some (entry0 .auto .running) ∧ s.fc.mode ≠ .hold := ⟨rfl, rfl, by decide⟩
theorem test_met_queue_take :
    let s (m : State) := handed .pilot .queueTake m
    let blocked := withCue 0 { cue0 with blockers := 1 } holding
    Asked (s holding) .pilot .queueTake ∧ queueGrants (s holding).cs.record.matrix.queueTake .pilot = true ∧
    (s holding).ct.queue = entry0 .auto .waiting :: [] ∧ (s holding).fc.mode = .hold ∧ (s holding).fc.latch = false ∧
    (s holding).ct.cue 0 = some cue0 ∧ (s shooting).fc.mode ≠ .hold ∧ (s blocked).ct.cue 0 = some { cue0 with blockers := 1 } ∧
    (s (withQueue [] State.reset)).ct.queue = [] :=
  ⟨rfl, rfl, rfl, rfl, rfl, rfl, by decide, rfl, rfl⟩
theorem test_met_queue_take_not_granted :
    let m : MatrixCfg := { MatrixCfg.default with queueTake := ⟨false, true⟩ }
    queueGrants m.queueTake .pilot = false := rfl
theorem test_met_queue_skip_and_clear :
    Asked (handed .director .queueSkip shooting) .director .queueSkip ∧ Asked (handed .director .queueClear shooting) .director .queueClear ∧
    Asked (handed .pilot .queueSkip shooting) .pilot .queueSkip ∧
    queueGrants shooting.cs.record.matrix.queueSkip .pilot = false ∧ queueGrants shooting.cs.record.matrix.queueClear .pilot = false ∧
    queueGrants shooting.cs.record.matrix.queueSkip .director = true ∧ queueGrants shooting.cs.record.matrix.queueClear .director = true ∧
    shooting.ct.queue = entry0 .auto .running :: [entry0 .call .waiting] ∧ holding.ct.queue = entry0 .auto .waiting :: [] ∧
    (entry0 .auto .waiting).status ≠ .running := ⟨rfl, rfl, rfl, rfl, rfl, rfl, rfl, rfl, rfl, by decide⟩
theorem test_met_copies_of_ct :
    let r : ChangeReport := { changes := [], inForce := [onTheWay], subject := none, relieving := false, nearCap := none }
    let s : State := { shooting with chan := { shooting.chan with ztToCt := [r] } }
    s.chan.ztToCt = r :: [] ∧ s.chan.fcToCt = 0 :: [] ∧ s.part.supply = true ∧ s.part.resetLine = false := ⟨rfl, rfl, rfl, rfl⟩

/-- PARKED with all links UP and all drives BRAKED, configured. -/
def parked : State :=
  let s := linked .braked (flying .parked point State.reset)
  { s with cs := { s.cs with unconfigured := false } }

theorem test_met_launch :
    let s := handed .safety .launch parked
    Asked s .safety .launch ∧ s.part.estopLine = false ∧ s.fc.mode = .parked ∧ s.cs.unconfigured = false ∧
    (∀ w : Winch, s.fc.links[w] = .up) ∧ (∃ w : Winch, s.fc.driveStatus[w] ≠ some .tracking) ∧ s.fc.p = some point :=
  ⟨rfl, rfl, rfl, rfl, by decide +kernel, ⟨0, by decide +kernel⟩, rfl⟩
theorem test_met_launch_refused :
    Asked (handed .safety .launch State.reset) .safety .launch ∧ State.reset.fc.mode ≠ .parked ∧ State.reset.part.estopLine = false ∧
    (flying .parked point State.reset).cs.unconfigured = true ∧ State.reset.fc.links[(0 : Winch)] ≠ .up ∧
    ({ parked with part := { parked.part with estopLine := true } } : State).part.estopLine = true :=
  ⟨rfl, by decide, rfl, rfl, by decide, rfl⟩

/-- A state with its launch and settle timers as given. -/
def timed (launch settle : Option PartTime) (s : State) : State :=
  { s with fc := { s.fc with launchTimer := launch, settleTimer := settle } }

theorem test_met_launch_timer :
    let s := timed (some 500) none (flying .launching point State.reset)
    s.fc.launchTimer = some 500 ∧ s.fc.mode = .launching ∧ ∀ e ∈ s.fc.causes, e.cause ≠ .launchFail := ⟨rfl, rfl, by decide⟩
theorem test_met_settle_timer :
    let s := timed none (some 500) (flying (.ret .settle) point State.reset)
    s.fc.settleTimer = some 500 ∧ s.fc.mode = .ret .settle ∧ ∀ e ∈ s.fc.causes, e.cause ≠ .parkFail := ⟨rfl, rfl, by decide⟩
theorem test_met_timers_in_stopped :
    let s := timed (some 500) (some 500) State.reset
    s.fc.mode = .stopped ∧ s.fc.launchTimer = some 500 ∧ s.fc.settleTimer = some 500 ∧
    ∀ e ∈ s.fc.causes, e.cause ≠ .launchFail ∧ e.cause ≠ .parkFail := ⟨rfl, rfl, rfl, by decide⟩

theorem test_met_jog (d : Vec3) :
    let s (m : State) := handed .pilot (.jog d) m
    Asked (s holding) .pilot (.jog d) ∧ (s holding).fc.mode = .hold ∧ (s shooting).fc.mode = .cue ∧
    (s shooting).ct.queue = entry0 .auto .running :: [entry0 .call .waiting] ∧ (s (flying .jog point State.reset)).fc.mode = .jog ∧
    (s parked).fc.mode = .parked ∧ (d = ⟨-9000, 9000, 0⟩ → -9000 ≤ d.x ∧ d.y ≤ 9000) ∧ (d = ⟨-9001, 0, 0⟩ → ¬ -9000 ≤ d.x) :=
  ⟨rfl, rfl, rfl, rfl, rfl, rfl, fun h => by subst h; decide, fun h => by subst h; decide⟩
theorem test_met_deadman :
    let s := flying .jog point State.reset
    ({ s with fc := { s.fc with deadman := some 250, jogDemand := ⟨1, 0, 0⟩ } } : State).fc.deadman = some 250 := rfl
theorem test_met_hold :
    let s (m : State) := handed .pilot .hold m
    Asked (s holding) .pilot .hold ∧ (s holding).fc.hot = false ∧ (s holding).fc.mode = .hold ∧ (s holding).fc.latch = false ∧
    (s shooting).fc.mode = .cue ∧ (s shooting).fc.subject = none ∧ (s shooting).fc.latch = false ∧
    (s (flying (.ret .rise) point State.reset)).fc.mode.isLeg = true ∧ (s (flying .jog point State.reset)).ct.queue = [] ∧
    (s parked).fc.mode = .parked ∧ ({ holding with fc := { holding.fc with hot := true } } : State).fc.hot = true :=
  ⟨rfl, rfl, rfl, rfl, rfl, rfl, rfl, rfl, rfl, rfl, rfl⟩
theorem test_met_return :
    let s (m : State) := handed .pilot .returnDock m
    Asked (s holding) .pilot .returnDock ∧ (s parked).fc.mode = .parked ∧ (s (flying (.ret .rise) point State.reset)).fc.mode = .ret .rise ∧
    (s (flying .launching point State.reset)).fc.mode = .launching ∧ (s State.reset).fc.mode = .stopped ∧
    (s (flying .evict point State.reset)).fc.mode = .evict ∧ (s holding).fc.mode = .hold ∧ (s holding).fc.p = some point ∧
    (s (flying .jog point State.reset)).fc.mode = .jog ∧ (s shooting).fc.mode = .cue ∧ (s shooting).fc.subject = none :=
  ⟨rfl, rfl, rfl, rfl, rfl, rfl, rfl, rfl, rfl, rfl, rfl⟩
/-- An ARMED zone above the point blocks the rise of a return. -/
theorem test_met_return_blocked :
    (pathCheck .default 0 [{ onTheWay with box := ⟨39000, 41000, 29000, 31000, 10000, 30000⟩ }] point ⟨40000000, 30000000, 15000000⟩).isSome
      = true := by decide +kernel

/-- A state with one message from WLC, and one with one from LM. -/
def fromWlc (m : FcMsg) (s : State) : State := { s with chan := { s.chan with wlcToFc := [m] } }
def fromLm (m : FcMsg) (s : State) : State := { s with chan := { s.chan with lmToFc := [m] } }

theorem test_met_statuses_and_flags (b : Bool) :
    (fromWlc (.linkState 3 .up) holding).chan.wlcToFc = .linkState 3 .up :: [] ∧
    (fromLm (.high b) holding).chan.lmToFc = .high b :: [] ∧ (fromLm (.warm b) holding).chan.lmToFc = .warm b :: [] ∧
    (fromLm (.hot b) holding).chan.lmToFc = .hot b :: [] ∧ holding.fc.hot = false ∧ holding.fc.mode = .hold ∧ holding.fc.p = some point ∧
    State.reset.fc.mode = .stopped ∧ (fromWlc (.driveStatus 3 .braked) holding).chan.wlcToFc = .driveStatus 3 .braked :: [] ∧
    holding.part.supply = true ∧ holding.part.resetLine = false := ⟨rfl, rfl, rfl, rfl, rfl, rfl, rfl, rfl, rfl, rfl, rfl⟩
theorem test_met_last_tracking :
    let s := linked .tracking (flying .launching point State.reset)
    s.fc.mode = .launching ∧ (∀ v : Winch, (put s.fc.driveStatus 3 (some .tracking))[v] = some .tracking) ∧ s.fc.subject = none ∧
    s.fc.latch = false ∧ s.fc.hot = false ∧ s.ct.queue = [] := ⟨rfl, by decide +kernel, rfl, rfl, rfl, rfl⟩
theorem test_met_last_braked :
    let s := linked .braked (flying (.ret .settle) point State.reset)
    s.fc.mode = .ret .settle ∧ ∀ v : Winch, (put s.fc.driveStatus 3 (some .braked))[v] = some .braked := ⟨rfl, by decide +kernel⟩

/-- A change report from ZT with a subject and a copy. -/
def reported (zones : List ForceZone) (subject : Option ZoneName) (s : State) : State :=
  { s with
    chan := { s.chan with
      ztToFc := [.change { changes := [], inForce := zones, subject := subject, relieving := true, nearCap := none }] } }

/-- The PENDING zone that the envelope at the point overlaps, as FC's copy holds it. -/
def overPoint : ForceZone := { onTheWay with state := .pending, box := nearBox, clearance := some (clearance .default point 0 nearBox) }

/-- FC's copy holds the PENDING zone at the point and names it as the subject. -/
def subjected (s : State) : State := { s with fc := { s.fc with zones := [overPoint], subject := some ⟨5, 1⟩ } }

theorem test_met_eviction :
    (match chooseExit (subjected holding) with | some (some _) => true | _ => false) = true ∧ holding.fc.evictBlocked = false := by
  decide +kernel
theorem test_met_zone_reports :
    (reported [overPoint] (some ⟨5, 1⟩) parked).chan.ztToFc.length = 1 ∧ parked.fc.mode = .parked ∧ shooting.fc.mode = .cue ∧
    shooting.fc.run.isSome = true ∧ shooting.ct.queue.head? = some (entry0 .auto .running) ∧ shooting.fc.p = some point ∧
    shooting.fc.latch = false ∧ shooting.fc.hot = false ∧ shooting.fc.returnBlocked = false ∧
    ({ holding with fc := { holding.fc with returnBlocked := true } } : State).fc.returnBlocked = true :=
  ⟨rfl, rfl, rfl, rfl, rfl, rfl, rfl, rfl, rfl, rfl⟩
theorem test_met_end_of_eviction :
    let e : EvictRecord := { subject := ⟨5, 1⟩, dir := .zUp, target := ⟨40000000, 30000000, 31400000⟩, length := 23400000 }
    let s := flying .evict point State.reset
    let s : State :=
      { s with fc := { s.fc with evict := some e }, chan := { s.chan with ztToFc := [.summary none (some ⟨5, 1⟩)] } }
    s.chan.ztToFc = .summary none (some e.subject) :: [] ∧ s.fc.mode = .evict ∧ s.fc.evict = some e := ⟨rfl, rfl, rfl⟩

/-- A step of a run at 387.5 mm/s moves P by 2 mm: the statement on ARMED zones is about steps that are made. -/
theorem test_met_servo_step_moves :
    let s : State := { shooting with fc := { shooting.fc with v := ⟨387500, 0, 0⟩, zones := [onTheWay] } }
    s.part.supply = true ∧ s.part.resetLine = false ∧ s.fc.p = some point ∧
    (after .servoStep s).fc.p = some ⟨40002000, 30000000, 8000000⟩ := ⟨rfl, rfl, rfl, by decide +kernel⟩

theorem test_met_causes :
    (fromLm (.raise (.slack 3)) holding).chan.toFc .lm = .raise (.slack 3) :: [] ∧
    (fromLm (.clear (.slack 3)) holding).chan.toFc .lm = .clear (.slack 3) :: [] ∧ holding.fc.causes = [] ∧
    holding.fc.mode ≠ .stopped ∧ State.reset.fc.mode = .stopped ∧ (⟨.restart, false⟩ : CauseEntry) ∈ State.reset.fc.causes ∧
    Asked (handed .safety .stop holding) .safety .stop ∧ State.reset.part.estopLine = false ∧ LatchedCoversLive State.reset ∧
    ModeRecordsSound shooting :=
  ⟨rfl, rfl, rfl, by decide, rfl, by decide, rfl, rfl, by unfold LatchedCoversLive; decide +kernel,
   by unfold ModeRecordsSound; decide +kernel⟩

/-- STOPPED with all links UP, all drives in a status, and the lengths of a point. -/
def stopped (d : DriveStatus) : State := handed .safety .resume (linked d State.reset)

theorem test_met_resume :
    let s := stopped .braked
    Asked s .safety .resume ∧ s.fc.mode = .stopped ∧ s.part.estopLine = false ∧ (∀ e ∈ s.fc.causes, e.live = false) ∧
    (∀ w : Winch, s.fc.links[w] = .up) ∧ s.fc.lengths[(0 : Winch)] = some 56824 ∧ s.fc.lengths[(3 : Winch)] = some 77000 ∧
    s.fc.p = none ∧ (∀ w : Winch, s.fc.driveStatus[w] = some .braked) ∧
    ∃ w : Winch, (stopped .releasing).fc.driveStatus[w] ≠ some .tracking :=
  ⟨rfl, rfl, rfl, by decide, by decide +kernel, rfl, rfl, rfl, by decide +kernel, ⟨0, by decide +kernel⟩⟩
theorem test_met_resume_refused :
    let s : State := { State.reset with fc := { State.reset.fc with causes := [⟨.estop, true⟩] } }
    (∃ e ∈ s.fc.causes, e.live = true) ∧ s.fc.mode = .stopped ∧ parked.fc.mode ≠ .stopped ∧ State.reset.fc.lengths[(0 : Winch)] = none :=
  ⟨⟨⟨.estop, true⟩, by decide⟩, rfl, by decide, rfl⟩

/-! ## The hypotheses of the statements are met: LOCATE, links, loads, conditions and the store -/

/-- LOCATE's tests on lengths of the point, of the dock, and on lengths that no point has (R11, R12). -/
theorem test_locate :
    locate .default 250 56824 89605 103581 77000 = .at ⟨39999629, 29999817, 7999859⟩ ∧
    locate .default 250 0 0 0 0 = .outOfRange 1 ∧
    locate .default 250 56824 89605 104581 77000 = .inconsistent 104581 103581 ∧
    (match locate .default 250 31289 121074 149060 92407 with
     | .at q => decide ((q.dist2 (pointUm GeometryCfg.default.dock) : Int) ≤ (1000 * 200) ^ 2)
     | _ => false) = true := by decide +kernel
theorem test_met_resume_deviation :
    (250000 : Int) ^ 2 < (Vec3.dist2 ⟨3000000, 3000000, 4000000⟩ ⟨39999629, 29999817, 7999859⟩ : Int) ∧
    (Vec3.dist2 point ⟨39999629, 29999817, 7999859⟩ : Int) ≤ (1000 * 250) ^ 2 ∧
    ¬ ((Vec3.dist2 ⟨39999629, 29999817, 7999859⟩ (pointUm GeometryCfg.default.dock) : Int) ≤ (1000 * 200) ^ 2) := by decide +kernel

/-- One link is in a given state. -/
def onLink (w : Winch) (l : Link) (s : State) : State := { s with wlc := put s.wlc w l }

/-- A link whose exchange waits for the STATE frame of sequence number 5. -/
def openLink : Link := { Link.reset with seq := 5, exchangeOpen := true, last := some ⟨5, 56824, .track, none⟩, state := .up }

/-- A STATE frame: its first ten bytes and its CRC. -/
def framed (b1 b2 : Byte) : List Byte :=
  let body := [b1, b2, 0x00, 0xDD, 0xF8, 0x27, 0x10, 20, 30]
  0x3C#8 :: body ++ [(crc16 body).extractLsb' 8 8, (crc16 body).extractLsb' 0 8]

theorem test_met_state_frame (b1 : Byte) : b1 = 0x05 ∨ b1 = 0x15 ∨ b1 = 0x06 →
    let c := crc16 [b1, 0x02, 0x00, 0xDD, 0xF8, 0x27, 0x10, 20, 30]
    c.toNat = (c.extractLsb' 8 8).toNat * 256 + (c.extractLsb' 0 8).toNat ∧ (0x02#8).toNat < 128 ∧ b1.toNat / 16 % 4 ≠ 3 ∧
    (0x02#8).toNat % 4 ≠ 3 ∧ 0 * 65536 + 0xDD * 256 + 0xF8 ≤ 400000 := by
  rintro (h | h | h) <;> subst h <;> decide +kernel
theorem test_met_state_frame_matches :
    let s := onLink 3 openLink State.reset
    s.wlc[(3 : Winch)].rx = [] ∧ s.wlc[(3 : Winch)].query = none ∧ s.wlc[(3 : Winch)].windowClosed < 20 ∧
    s.wlc[(3 : Winch)].exchangeOpen = true ∧ s.wlc[(3 : Winch)].last = some ⟨5, 56824, .track, none⟩ ∧ (5 : BitVec 4) = BitVec.ofNat 4 (0x15#8).toNat ∧
    (5 : BitVec 4) ≠ BitVec.ofNat 4 (0x06#8).toNat ∧ s.wlc[(3 : Winch)].driveFault = false ∧
    s.cs.record.winch[(3 : Winch)].policy = .keep := ⟨rfl, rfl, by decide, rfl, rfl, rfl, by decide, rfl, rfl⟩
theorem test_met_state_frame_missed :
    let r := State.reset.cs.record
    (put r.winch 3 { WinchCfg.default with policy := .miss })[(3 : Winch)].policy = .miss ∧ (0x15#8).toNat / 16 % 4 = 1 := by decide
theorem test_met_gap : ({ openLink with rx := [0x3C] } : Link).rx ≠ [] ∧ openLink.rx = [] := by decide

/-- A query in flight that 40 TARGETs have carried. -/
def oldQuery (carried : Nat) : QuerySlot := { id := 0, code := 15, args := [0, 0, 0, 0], carried := carried, port := .director, tag := 9 }

theorem test_met_window_end :
    let l : Link := { openLink with windowClosed := 20, windowGood := 14, badWindows := 2, state := .degraded, query := some (oldQuery 39) }
    let s := onLink 3 l State.reset
    20 ≤ s.wlc[(3 : Winch)].windowClosed ∧ s.wlc[(3 : Winch)].query = some (oldQuery 39) ∧ (oldQuery 39).carried < 40 ∧
    ¬ s.cs.record.winch[(3 : Winch)].wdMin ≤ s.wlc[(3 : Winch)].windowGood := ⟨by decide, rfl, by decide, by decide⟩
theorem test_met_query_timeout :
    let s := onLink 3 { openLink with exchangeOpen := false, query := some (oldQuery 40) } State.reset
    s.wlc[(3 : Winch)].query = some (oldQuery 40) ∧ s.wlc[(3 : Winch)].exchangeOpen = false ∧ 40 ≤ (oldQuery 40).carried := ⟨rfl, rfl, by decide⟩
theorem test_met_drive_query (w code : Byte) (l : Link) :
    let r : Request := .driveQuery w code [1, 2, 3, 4]
    Asked (handed .director r (onLink 3 l State.reset)) .director r := rfl
theorem test_met_drive_query_operands :
    (0#8).toNat = 0 ∧ 4 < (5#8).toNat ∧ (4#8).toNat = (3 : Winch).val + 1 ∧ 15 < (16#8).toNat ∧ (15#8).toNat ≤ 15 ∧
    openLink.windowClosed < 20 ∧ openLink.query = none ∧ openLink.state = .up ∧ Link.reset.state ≠ .up ∧
    ({ openLink with query := some (oldQuery 1) } : Link).query ≠ none ∧
    ((handed .director .stop (onLink 3 openLink State.reset)).cif.port .director).inProgress = some ⟨0x10, 7, .handed .stop⟩ := by decide
theorem test_met_counters :
    Asked (handed .pilot (.counters 4 0) State.reset) .pilot (.counters 4 0) ∧
    Asked (handed .pilot (.counters 4 1) State.reset) .pilot (.counters 4 1) ∧
    Asked (handed .pilot (.counters 5 1) State.reset) .pilot (.counters 5 1) ∧ (4#8).toNat = (3 : Winch).val + 1 ∧ 4 < (5#8).toNat :=
  ⟨rfl, rfl, rfl, rfl, by decide⟩

/-- One winch of LM is in a given state. -/
def onLoad (w : Winch) (l : LmWinch) (s : State) : State := { s with lm := { s.lm with winches := put s.lm.winches w l } }

theorem test_met_load_timers :
    let s := onLoad 3 { LmWinch.reset with slack := .timing 200, follow := .timing 400 } State.reset
    s.lm.winches[(3 : Winch)].slack = .timing 200 ∧ s.lm.winches[(3 : Winch)].follow = .timing 400 ∧ s.part.supply = true ∧
    s.part.resetLine = false := ⟨rfl, rfl, rfl, rfl⟩
theorem test_met_load_rules :
    WinchCfg.default.offset = 0 ∧ 0 ≤ WinchCfg.default.scale ∧ 0 ≤ SagCfg.default.riseRate ∧ 0 ≤ SagCfg.default.fallRate := by decide

/-- A state with one message to SU from WLC. -/
def toStatus (m : SuMsg) (s : State) : State := { s with chan := { s.chan with wlcToSu := [m] } }

theorem test_met_conditions (set : Bool) :
    (toStatus (.raise 42) State.reset).chan.toSu .wlc = .raise 42 :: [] ∧ (toStatus (.clear 41) State.reset).chan.toSu .wlc = .clear 41 :: [] ∧
    State.reset.su.conds[(42 : Fin 43)].live = false ∧ State.reset.su.conds[(41 : Fin 43)].live = true ∧
    ({ State.reset with chan := { State.reset.chan with fcToSu := [.airborne set] } } : State).chan.fcToSu = .airborne set :: [] ∧
    State.reset.su.driven = .fast ∧ (250 = 2000 ∨ 250 = 250) := ⟨rfl, rfl, rfl, rfl, rfl, rfl, .inr rfl⟩
theorem test_met_acknowledge :
    Asked (handed .pilot (.acknowledge 42) State.reset) .pilot (.acknowledge 42) ∧ (42#8).toNat < 43 ∧ 43 ≤ (43#8).toNat ∧
    43#8 ≠ 0xFF#8 ∧ Asked (handed .pilot (.acknowledge 0xFF) State.reset) .pilot (.acknowledge 0xFF) :=
  ⟨rfl, by decide, by decide, by decide, rfl⟩

theorem test_met_reads (c : Byte) (w : Option Byte) :
    Asked (handed .pilot .flightRead State.reset) .pilot .flightRead ∧ Asked (handed .pilot (.winchRead c) State.reset) .pilot (.winchRead c) ∧
    Asked (handed .pilot (.conditionsRead c) State.reset) .pilot (.conditionsRead c) ∧
    Asked (handed .safety (.conditionsRead 1) State.reset) .safety (.conditionsRead 1) ∧
    Asked (handed .pilot (.configRead c w) State.reset) .pilot (.configRead c w) ∧ 8 ≤ (8#8).toNat ∧
    State.reset.wlc[(3 : Winch)].windowClosed < 20 ∧ State.reset.wlc[(3 : Winch)].query = none :=
  ⟨rfl, rfl, rfl, rfl, rfl, by decide, by decide, rfl⟩

theorem test_met_config_write (g : Byte) (bs : List Byte) :
    let s (m : State) := handed .safety (.configWrite g bs) m
    Asked (s State.reset) .safety (.configWrite g bs) ∧ (s State.reset).cs.save = .idle ∧ (s savingNow).cs.save ≠ .idle ∧
    (s parked).fc.mode = .parked ∧ (s State.reset).fc.mode = .stopped ∧ (s State.reset).fc.p = none ∧ (s holding).fc.mode = .hold ∧
    7 ≤ (7#8).toNat := ⟨rfl, rfl, by simp [savingNow, handed], rfl, rfl, rfl, rfl, by decide⟩
/-- The default groups are read back from the bytes that CONFIG READ gives of them. -/
theorem test_met_config_fields :
    readGeometry (geometryBytes .default) = some .default ∧ readMotion (motionBytes .default) = some .default ∧
    readFollowing (followingBytes .default) = some .default ∧ readWinch (winchCfgBytes .default) = some .default ∧
    readSag (sagBytes .default) = some .default ∧ readMatrix (matrixBytes .default) = some .default ∧
    motionInRange .default = true ∧ followingInRange .default = true ∧ winchInRange .default = true ∧ winchConsistent .default = true ∧
    sagInRange .default = true ∧ geometryConsistent .default [] [] = true ∧
    geometryConsistent { GeometryCfg.default with xSize := 19999 } [] [] = false ∧
    readGeometry (geometryBytes { GeometryCfg.default with xSize := 19999 }) = some { GeometryCfg.default with xSize := 19999 } ∧
    readMotion (motionBytes { MotionCfg.default with maxSpeed := 9001 }) = some { MotionCfg.default with maxSpeed := 9001 } ∧
    motionInRange { MotionCfg.default with maxSpeed := 9001 } = false := by decide +kernel

theorem test_met_config_save :
    let s (m : State) := handed .safety .configSave m
    Asked (s parked) .safety .configSave ∧ (s parked).cs.save = .idle ∧ (s parked).fc.mode = .parked ∧
    (s State.reset).fc.mode ≠ .parked ∧ (s savingNow).cs.save = .saving image0 300 ∧
    guardAndCapFit State.reset.cs.record.geometry State.reset.cs.record.motion 5000 2000 = true ∧
    guardAndCapFit State.reset.cs.record.geometry State.reset.cs.record.motion 499 2000 = false :=
  ⟨rfl, rfl, rfl, by decide, rfl, by decide +kernel, by decide +kernel⟩
theorem test_met_start_after_a_cut_save : savingNow.cs.flash = .incomplete ∧ State.reset.cs.flash = .erased ∧
    savingNow.part.resetLine = false := ⟨rfl, rfl, rfl⟩

/-! ## The hypotheses of the statements are met: messages that wait, reports, the servo step, closing frames and writes -/

theorem test_met_not_enabled_query :
    let s := onLink 3 { openLink with query := some (oldQuery 40) } State.reset
    let t := onLink 3 { openLink with exchangeOpen := false, query := some (oldQuery 39) } State.reset
    s.wlc[(3 : Winch)].query = some (oldQuery 40) ∧ s.wlc[(3 : Winch)].exchangeOpen = true ∧
    t.wlc[(3 : Winch)].query = some (oldQuery 39) ∧ (oldQuery 39).carried < 40 := ⟨rfl, rfl, rfl, by decide⟩
theorem test_met_not_enabled_messages :
    (∀ r, (fromLm (.warm true) holding).chan.lmToFc.head? ≠ some (.high r)) ∧ State.reset.chan.toSu .cs = [] ∧
    (∀ c, ((fromLm (.warm true) holding).chan.toFc .lm).head? ≠ some (.raise c)) ∧
    (∀ c n, (reported [] none holding).chan.ztToFc.head? ≠ some (.summary c n)) := by
  exact ⟨fun _ => by simp [fromLm], rfl, fun _ => by simp [fromLm, Channels.toFc], fun _ _ => by simp [reported]⟩
theorem test_met_restart_response_waits :
    let f : TxFrame := responseFrame 0x63 7 .ok false []
    f.notice = false ∧ f.kind = 0xE3#8 ∧ f.body.head? = some 0#8 := by decide

/-- Slot 0 waits near the point and slot 3 far from it, slot 1 is ARMED near it, and slot 2 awaits position near it. -/
def mixedTable : State :=
  let s := withZone 3 { pendingZone with clearance := none } (withZone 2 { fixedZone with awaiting := true, box := nearBox }
    (withZone 1 { armedZone with box := nearBox } (withZone 0 blockedZone State.reset)))
  { s with zt := { s.zt with queue := [3, 0] }, chan := { s.chan with fcToZt := [{ p := some point, a := 0 }] } }

/-- A check of PendingQueueSound and ZoneFieldsFit, slot by slot. -/
def reportCheck (s : State) : Bool :=
  decide s.zt.queue.Nodup && decide (s.zt.queue.length ≤ 8) &&
  (List.finRange 48).all (fun h => decide (h ∈ s.zt.queue ↔ s.zt.stateOf h = some .pending) &&
    (s.zt.zone h).all (fun z =>
      decide ((z.cls = .fixed → z.expiry = none) ∧ (z.awaiting = true → z.state = .suspended ∧ z.cls = .fixed) ∧ z.group ≤ 7)))

theorem reportCheck_sound {s : State} (h : reportCheck s = true) : PendingQueueSound s ∧ ZoneFieldsFit s := by
  simp only [reportCheck, Bool.and_eq_true, decide_eq_true_eq, List.all_eq_true] at h
  obtain ⟨⟨h1, h2⟩, h3⟩ := h
  refine ⟨⟨h1, h2, fun j => (h3 j (List.mem_finRange j)).1⟩, fun j z hz => ?_⟩
  have := (h3 j (List.mem_finRange j)).2
  simpa only [hz, Option.all_some, decide_eq_true_eq] using this

theorem test_met_valid_report_of_every_kind : PendingQueueSound mixedTable ∧ ZoneFieldsFit mixedTable :=
  reportCheck_sound (by decide +kernel)
theorem test_report_of_every_kind :
    let u := after .positionReport mixedTable
    u.zt.queue = [0, 1, 2] ∧ [0, 1, 2, 3].map u.zt.stateOf = [some .pending, some .pending, some .pending, some .armed] ∧
    u.zt.subject = some 0 ∧ u.chan.notices.length = 3 := by decide +kernel
/-- Nine ARMED zones near the point find eight places. -/
theorem test_report_that_overflows :
    let s0 := everySlot { armedZone with box := nearBox } State.reset
    let s : State := { s0 with chan := { s0.chan with fcToZt := [{ p := some point, a := 0 }] } }
    let u := after .positionReport s
    reportCheck s = true ∧ u.zt.queue = (List.finRange 48).take 8 ∧ u.zt.overflow = true ∧ u.zt.stateOf 8 = some .suspended := by
  decide +kernel

theorem test_met_queue_add_refused :
    Asked (handed .pilot (.queueAdd 0 1 2) State.reset) .pilot (.queueAdd 0 1 2) ∧
    Asked (handed .director (.queueAdd 0 1 2) State.reset) .director (.queueAdd 0 1 2) ∧
    queueGrants State.reset.cs.record.matrix.queueAdd .pilot = false ∧ 1 < (2#8).toNat := ⟨rfl, rfl, rfl, by decide⟩

/-- In EVICT at the point from the PENDING zone there, with a change report that names a subject. -/
def evicting (zones : List ForceZone) (changes : List ChangeEntry) (subject : Option ZoneName) : State :=
  let e : EvictRecord := { subject := ⟨5, 1⟩, dir := .zUp, target := ⟨40000000, 30000000, 31400000⟩, length := 23400000 }
  let s := flying .evict point State.reset
  { s with
    fc := { s.fc with evict := some e, subject := some ⟨5, 1⟩, zones := zones },
    chan := { s.chan with
      ztToFc := [.change { changes := changes, inForce := zones, subject := subject, relieving := true, nearCap := none }] } }

theorem test_met_reports_in_evict :
    let above : ForceZone := { onTheWay with handle := 6, box := ⟨39000, 41000, 29000, 31000, 20000, 21000⟩ }
    let shift : ChangeEntry := { handle := 5, generation := 1, cls := .play, kind := .shift, before := none, after := some .pending }
    let target : Vec3 := ⟨40000000, 30000000, 31400000⟩
    (pathCheck .default 0 [above] point target).isSome = true ∧ pathCheck .default 0 [] point target = none ∧
    (∃ c ∈ [shift], c.handle = 5 ∧ c.kind = .shift) ∧ some (⟨6, 1⟩ : ZoneName) ≠ some ⟨5, 1⟩ ∧
    (match chooseExit (evicting [overPoint] [shift] (some ⟨5, 1⟩)) with | some (some _) => true | _ => false) = true ∧
    (after .changeReportFc (evicting [overPoint] [] (some ⟨6, 1⟩))).fc.mode = .hold ∧
    (after .changeReportFc (evicting [overPoint, above] [] (some ⟨5, 1⟩))).fc.mode = .evict := by
  decide +kernel

/-- FC in a mode at the point with a velocity along x and a jog demand along x, with no zone in its copy. -/
def along (m : Mode) (v demand : Int) : Fc :=
  let f := (flying m point State.reset).fc
  { f with v := ⟨v, 0, 0⟩, jogDemand := ⟨demand, 0, 0⟩ }

theorem test_met_rate_limit :
    DemandIs (along .hold 0 0) 6000 point .zero ∧ WithinRateLimit .default .zero .zero ∧
    DemandIs (along .hold 1000000 0) 6000 point .zero ∧ (0 : Int) < 1000000 - 5 * MotionCfg.default.decel ∧
    DemandIs (along .jog 100 1000) 6000 point ⟨1000000, 0, 0⟩ ∧ (100 : Int) + 5 * MotionCfg.default.accel < 1000000 ∧
    GoalIs shooting.fc ⟨point.x + 12000000, point.y, point.z⟩ ∧
    (100 + 5 * MotionCfg.default.accel) ^ 2 ≤ 2000 * MotionCfg.default.decel * 12000000 ∧
    [along .hold 0 0, along .hold 1000000 0, along .jog 100 1000, { shooting.fc with v := ⟨100, 0, 0⟩ }].map
      (fun f => (stepMotion .default f 0).v) = [.zero, ⟨980000, 0, 0⟩, ⟨12600, 0, 0⟩, ⟨12600, 0, 0⟩] := by
  refine ⟨.inl (by decide), by unfold WithinRateLimit; decide, .inl (by decide), by decide, .inr (.inr (by decide)), by decide,
    .inl ⟨rfl, _, rfl, rfl⟩, by decide, by decide +kernel⟩

/-- FC in JOG at its demand along x, k µm from STANDOFF of an ARMED zone that lies along x. -/
def approaching (k demand : Int) : Fc :=
  { along .jog (1000 * demand) demand with
    p := some ⟨40000000 - k, 30000000, 8000000⟩, zones := [{ onTheWay with box := ⟨41100, 42000, 29000, 31000, 0, 30000⟩ }] }

theorem test_met_approach_limit (k : Int) : k = 100 ∨ k = 1000 →
    let e := envelope .default ⟨40000000 - k, 30000000, 8000000⟩ 0
    let z := boxUm ⟨41100, 42000, 29000, 31000, 0, 30000⟩
    closingVector e z = ⟨500000 + k, 0, 0⟩ ∧ max 0 ((gaps e z).x - 500000) = k ∧
    DemandIs (approaching k 1000) 6000 ⟨40000000 - k, 30000000, 8000000⟩ ⟨1000000, 0, 0⟩ ∧
    WithinRateLimit .default (approaching k 1000).v ⟨1000000, 0, 0⟩ := by
  rintro (h | h) <;> subst h <;>
    exact ⟨by decide +kernel, by decide +kernel, .inr (.inr (by decide)), by unfold WithinRateLimit; decide⟩
theorem test_approach_limit :
    [approaching 100 0, approaching 1000 (-1000), approaching 1000 1, approaching 100 1000, approaching 1000 1000].map (fun f =>
      ((stepMotion .default f 0).v, (stepMotion .default f 0).refused)) =
      [(.zero, false), (⟨-1000000, 0, 0⟩, false), (⟨1000, 0, 0⟩, false), (⟨20000, 0, 0⟩, false), (⟨89443, 0, 0⟩, false)] := by
  decide +kernel

/-- A state with FC in a mode at the point with a velocity, zones in its copy, and the mode's goal at a point. -/
def steered (m : Mode) (v : Vec3) (zones : List ForceZone) (goal : Vec3) : State :=
  let s := flying m point (withQueue [entry0 .auto (if m = .cue then .running else .aborted), entry0 .call .waiting] State.reset)
  { s with
    ct := { s.ct with halted := decide (m ≠ .cue) },
    fc := { s.fc with
      v := v, zones := zones, subject := (zones.find? (fun z => z.state = .pending)).map (fun z => ⟨z.handle, z.generation⟩),
      run := if m = .cue then some ⟨0, 1, ⟨goal.x / 1000, goal.y / 1000, goal.z / 1000⟩, 3000, 100⟩ else none,
      evict := if m = .evict then some { subject := ⟨5, 1⟩, dir := .zUp, target := goal, length := 0 } else none,
      legGoal := if m.isLeg then some goal else none } }

/-- A refused step blocks EVICT and a leg, and leaves JOG standing, also with a zero demand (R122, R130, R138; log 15). -/
theorem test_refused_steps :
    let s (m : Mode) (v : Vec3) := steered m v [{ overPoint with state := .armed }] ⟨40000000, 30000000, 31400000⟩
    [s .jog ⟨0, 387600, 0⟩, s .evict ⟨0, 0, 387500⟩, s (.ret .rise) ⟨0, 0, 387500⟩].map (fun s =>
      ((stepMotion .default s.fc s.lm.a).refused, (after .servoStep s).fc.mode, (after .servoStep s).fc.v)) =
      [(true, .jog, .zero), (true, .hold, .zero), (true, .hold, .zero)] := by decide +kernel

/-- Stage 8's tests of each mode, failing and passing (R66, R102, R130, R131, R137, R139). -/
theorem test_ends_of_modes :
    let goal : Vec3 := ⟨40000000, 30000000, 31400000⟩
    [steered .jog ⟨387600, 0, 0⟩ [] point, steered .cue ⟨0, 0, 387500⟩ [] goal, steered .evict ⟨0, 0, 387500⟩ [overPoint] goal,
      steered (.ret .rise) ⟨0, 0, 387500⟩ [] goal].map (fun s => (after .servoStep s).fc.mode) =
      [.jog, .cue, .evict, .ret .rise] ∧
    [steered .jog .zero [] point, steered .cue .zero [] point, steered .evict .zero [overPoint] point,
      steered .evict .zero [{ overPoint with box := ⟨0, 120000, 0, 90000, 0, 35000⟩ }] point,
      steered (.ret .rise) .zero [] point, steered (.ret .traverse) .zero [] point,
      linked .tracking (steered (.ret .descend) .zero [] point), linked .braked (steered (.ret .descend) .zero [] point)].map
        (fun s => (after .servoStep s).fc.mode) =
      [.hold, .hold, .evict, .hold, .ret .traverse, .ret .descend, .ret .settle, .parked] := by decide +kernel

/-- The 20th closure leaves the window to be judged at WINDOW_END (log 10). -/
theorem test_twentieth_closure :
    let s := onLink 3 { openLink with windowClosed := 19, windowGood := 19 } State.reset
    let u := after (.stateFrame 3 (framed 0x05 0x02)) s
    s.wlc[(3 : Winch)].windowClosed < 20 ∧ u.wlc[(3 : Winch)].windowClosed = 20 ∧ u.wlc[(3 : Winch)].state = .up ∧
    (after (.windowEnd 3) u).wlc[(3 : Winch)].windowClosed = 0 := by decide +kernel

/-- A frame of winch 4 with a length of 56,824 mm and a raw tension: its bytes up to the temperatures. -/
def head (b1 b2 : Byte) (raw : Nat) : List Byte := [b1, b2, 0x00, 0xDD, 0xF8] ++ u16 raw ++ [20, 30]

/-- The state that a closing frame leaves where winch 4's link and policy are as given. -/
def closing (b1 b2 : Byte) (raw : Nat) (answer : Option (Byte × List Byte)) (l : Link) (policy : Policy) : State :=
  let c : WinchCfg := { WinchCfg.default with policy := policy }
  let s := onLink 3 l State.reset
  let s : State := { s with cs := { s.cs with record := { s.cs.record with winch := put s.cs.record.winch 3 c } } }
  after (.stateFrame 3 (stateBytes (head b1 b2 raw) answer)) s

theorem test_met_closing_frame :
    LoadFlagsFollow (onLink 3 openLink State.reset) ∧ 0 * 65536 + 0xDD * 256 + 0xF8 ≤ 400000 ∧ (0x25#8).toNat / 16 % 4 ≠ 3 ∧
    BitVec.ofNat 4 (0x25#8).toNat = 5 ∧ 128 ≤ (0x82#8).toNat ∧ (0x01#8).toNat % 4 ≠ 3 ∧
    BitVec.ofNat 3 ((0x01#8).toNat / 16) = (oldQuery 1).id := by
  refine ⟨?_, by decide⟩
  unfold LoadFlagsFollow; decide +kernel

/-- OK, DEGRADED under KEEP and under ACCEPT, a third REJECTED, a drive in FAULT, a fault that ends, and the answers to a query and to none:
the rejected run, the fault, the query and the set. -/
theorem test_closing_frames :
    let asked : Link := { openLink with query := some (oldQuery 1) }
    [closing 0x05 0x02 10000 none openLink .keep, closing 0x15 0x02 10000 none openLink .keep,
      closing 0x15 0x02 10000 none openLink .accept, closing 0x25 0x02 10000 none { openLink with rejectedRun := 2 } .keep,
      closing 0x05 0x03 10000 none openLink .keep, closing 0x05 0x02 10000 none { openLink with driveFault := true } .keep,
      closing 0x05 0x82 10000 (some (0x01, [1, 2, 3, 4, 5, 6, 7, 8])) asked .keep,
      closing 0x05 0x82 10000 (some (0x11, [])) asked .keep].map (fun u =>
        (u.wlc[(3 : Winch)].rejectedRun, u.wlc[(3 : Winch)].driveFault, u.wlc[(3 : Winch)].query.isSome,
         u.lm.winches[(3 : Winch)].meas.isSome)) =
      [(0, false, false, true), (0, false, false, false), (0, false, false, true), (3, true, false, true), (0, true, false, true),
       (0, false, false, true), (0, false, false, true), (0, false, true, true)] := by decide +kernel

/-- A heavy pull (chapter 9): the set makes TENSION_HIGH live and raises the high flag, and a slack one starts the slack timer. -/
theorem test_closing_frame_moves_the_loads :
    let u := closing 0x05 0x02 29500 none openLink .keep
    u.lm.winches[(3 : Winch)].tensionHigh = true ∧ u.lm.high = true ∧ u.chan.lmToSu = [.raise (condTensionHigh 3)] ∧
    u.chan.lmToFc = [.high true] ∧ (closing 0x05 0x02 0 none openLink .keep).lm.winches[(3 : Winch)].slack = .timing 200 := by
  decide +kernel

/-- LM holds a set of winch 4 under TRACK that is slack and out of position, with both comparators live. -/
def measured (s : State) : State :=
  onLoad 3
    { LmWinch.reset with
      meas := some { raw := 0, tension := 0, winding := 20, heatsink := 30, length := 57824, targetLength := 56824,
                     targetCommand := .track },
      slack := .live, follow := .live }
    s

theorem test_met_least_tension :
    let s := measured State.reset
    (∃ q, s.lm.winches[(3 : Winch)].meas = some q ∧ q.tension = 0) ∧ s.lm.winches[(0 : Winch)].meas = none ∧
    (∀ v' : Winch, s.lm.winches[v'].meas.isSome = true → (3 : Winch) ≤ v') :=
  ⟨⟨_, rfl, rfl⟩, rfl, by decide +kernel⟩

theorem test_met_config_fields_refused :
    readFollowing [] = none ∧ readWinch [] = none ∧ readSag [] = none ∧ readMatrix [] = none ∧ readGeometry [] = none ∧
    readFollowing (followingBytes ⟨49, 400⟩) = some ⟨49, 400⟩ ∧ followingInRange ⟨49, 400⟩ = false ∧
    winchInRange { WinchCfg.default with wdMin := 21 } = false ∧ winchConsistent { WinchCfg.default with warmLim := 110 } = false ∧
    sagInRange { SagCfg.default with fallRate := 501 } = false ∧ (4#8).toNat = (3 : Winch).val + 1 ∧
    [Baud.b115200, .b460800, .b921600].all (fun b => decide (([] : List Byte) ≠ i32 b.rate)) = true := by
  decide +kernel

/-- A CONFIG WRITE of SAFETY taken in a state. -/
def written (group : Byte) (bs : List Byte) (s : State) : State := after (.configWrite .safety) (handed .safety (.configWrite group bs) s)

/-- A FOLLOWING write that widens the tolerance clears FOLLOW, a WINCH write of a greater OFFSET clears SLACK. -/
theorem test_writes_move_the_loads :
    let u := written 2 (followingBytes { FollowingCfg.default with followTol := 1000 }) (measured State.reset)
    let v := written 3 (4 :: winchCfgBytes { WinchCfg.default with offset := 800 }) (measured State.reset)
    u.lm.winches[(3 : Winch)].follow = .clear ∧ u.chan.lmToFc = [.clear (.follow 3)] ∧ u.chan.lmToSu = [.clear (condFollow 3)] ∧
    v.lm.winches[(3 : Winch)].slack = .clear ∧ v.chan.lmToFc = [.clear (.slack 3)] := by decide +kernel

/-- A GEOMETRY write of a greater STANDOFF with the position valid demotes the ARMED zone at 1,000 mm; with it invalid it does not. -/
theorem test_geometry_writes :
    let g : GeometryCfg := { GeometryCfg.default with standoff := 1001 }
    geometryConsistent g (zoneBoxes (withArmed parked)) (cueTargets (withArmed parked)) = true ∧
    (withArmed parked).zt.report.p ≠ none ∧ parked.zt.report.p = none ∧
    (written 0 (geometryBytes g) (withArmed parked)).zt.stateOf 0 = some .pending ∧
    (written 0 (geometryBytes g) parked).cs.record.geometry = g := by decide +kernel

/-! ## A state that meets every property the steps keep, and steps from it -/

/-- In CUE at the point with an ARMED zone, a PENDING one that is the subject, an open exchange and a request in progress. -/
def busy : State :=
  let s := handed .director .stop (onLink 3 openLink (withZone 1 blockedZone (withArmed shooting)))
  { s with zt := { s.zt with queue := [1], subject := some 1 } }

theorem test_busy_steps (c : Instr) (rest : List Instr) :
    step { busy with pending := c :: rest } = exec c { busy with pending := rest } := rfl
theorem test_busy_answers :
    (match step { busy with pending := [.servoStep] } with | .next _ => true | _ => false) = true ∧
    (match step { busy with pending := [.stop .director] } with | .next u => decide (u.fc.mode = .stopped) | _ => false) = true ∧
    (match step busy with | .next u => decide (u.part.partTime = 1) | _ => false) = true := by decide +kernel

/-- A test of every zone of a table, slot by slot. -/
theorem everyZone {s : State} {P : Zone → Bool}
    (hc : (List.finRange 48).all (fun h => (s.zt.zone h).all P) = true) (h : ZoneHandle) (z : Zone) (hz : s.zt.zone h = some z) :
    P z = true := by
  have := List.all_eq_true.mp hc h (List.mem_finRange h)
  rwa [hz] at this

theorem test_busy_zone_table : ZoneTableSound busy := tableCheck_sound (by decide +kernel)
theorem test_busy_subject : SubjectIsTheBlockedHead busy := by
  intro h
  constructor
  · intro hs
    have h1 : h = 1 := (Option.some.inj hs).symm
    subst h1
    exact ⟨rfl, rfl, blockedZone, _, rfl, rfl, by decide +kernel⟩
  · rintro ⟨hh, -⟩
    have h1 : h = 1 := (Option.some.inj hh).symm
    subst h1
    rfl
theorem test_busy_fixed_count : FixedCountBounded busy := by unfold FixedCountBounded; decide +kernel
theorem test_busy_zone_fields : ZoneFieldsFit busy := by
  intro h z hz
  have := everyZone (s := busy)
    (P := fun z => decide ((z.cls = .fixed → z.expiry = none) ∧ (z.awaiting = true → z.state = .suspended ∧ z.cls = .fixed) ∧ z.group ≤ 7))
    (by decide +kernel) h z hz
  exact of_decide_eq_true this
theorem test_busy_shot_queue : ShotQueueSound busy := by unfold ShotQueueSound; decide +kernel
theorem test_busy_flight : StoppedExactlyWithCauses busy ∧ CauseSetSound busy ∧ ModeRecordsSound busy ∧ StillModesHaveZeroVelocity busy := by
  unfold StoppedExactlyWithCauses CauseSetSound ModeRecordsSound StillModesHaveZeroVelocity
  decide +kernel
theorem test_busy_links : LinksWithinBounds busy := by
  have hall : ∀ w : Winch, busy.wlc[w] = if w = 3 then openLink else Link.reset := by decide +kernel
  intro w
  rw [hall w]
  by_cases hw : w = 3
  · rw [if_pos hw]; exact ⟨rfl, by decide, by decide, by decide, fun _ hq => absurd hq (by simp [openLink, Link.reset]), by decide⟩
  · rw [if_neg hw]; exact ⟨rfl, by decide, by decide, by decide, fun _ hq => absurd hq (by simp [Link.reset]), by decide⟩
theorem test_busy_exchanges : OpenExchangesAwaitTheLastTarget busy := by
  intro w hw
  have h3 : w = 3 := by revert w; decide +kernel
  subst h3
  exact ⟨_, rfl, rfl⟩
theorem test_busy_supervision : LoadFlagsFollow busy ∧ AllowanceInRange busy ∧ LatchedCoversLive busy ∧ SteadyAtOnce busy ∧
    RecordInRange busy ∧ GeometrySound busy := by
  unfold LoadFlagsFollow AllowanceInRange LatchedCoversLive SteadyAtOnce RecordInRange GeometrySound
  decide +kernel
theorem test_busy_ports : PortsWithinBounds busy ∧ ReceiversSound busy := by
  refine ⟨fun p => ?_, fun p => ?_⟩
  · cases p <;> decide +kernel
  · cases p <;> exact ⟨⟨fun _ => rfl, fun _ => rfl⟩, trivial⟩

/-! ## Worked cases of the spec -/

/-- Clearance and the allowance (chapter 1). -/
theorem test_case_clearance :
    clearance .default point 300000 ⟨41000, 44000, 31000, 33000, 0, 5000⟩ = 1886 ∧
    clearance .default point 500000 ⟨41000, 44000, 31000, 33000, 0, 5000⟩ = 1697 ∧
    clearance .default point 300000 ⟨39000, 42000, 28000, 31000, 0, 7500⟩ = -700 ∧
    clearance .default point 500000 ⟨39000, 42000, 28000, 31000, 0, 7500⟩ = -900 := by decide +kernel

/-- The cable length targets of the point (R10). -/
theorem test_case_cables :
    (List.finRange 4).map (cableTarget .default point) = [56824, 89605, 103581, 77000] := by decide +kernel

/-- The zones of the worked cases on eviction (chapter 3). -/
def evictionZone (h : ZoneHandle) (state : ZoneState) (box : Box) : ForceZone :=
  { handle := h, generation := 1, state := state, box := box, guard := 5000, hyst := 500, cap := 2000, clearance := none }

/-- One exit blocked above and one beside: +y, 2,200 mm (chapter 3). -/
theorem test_case_eviction :
    leastExit (exits .default 300000
      [evictionZone 5 .armed ⟨38000, 43000, 29000, 31000, 9800, 12000⟩, evictionZone 7 .pending ⟨39000, 42000, 28000, 31000, 0, 7500⟩,
       evictionZone 11 .pending ⟨37000, 39200, 29000, 31000, 0, 6700⟩]
      ⟨7, 1⟩ ⟨39000, 42000, 28000, 31000, 0, 7500⟩ point) =
    some { subject := ⟨7, 1⟩, dir := .yUp, target := ⟨40000000, 32200000, 8000000⟩, length := 2200000 } := by decide +kernel

/-- The subject dropped in mid-move: the next exit is +x, 391.608 mm (chapter 3). -/
theorem test_case_next_subject :
    leastExit (exits .default 300000
      [evictionZone 5 .armed ⟨38000, 43000, 29000, 31000, 9800, 12000⟩, evictionZone 11 .pending ⟨37000, 39200, 29000, 31000, 0, 6700⟩]
      ⟨11, 1⟩ ⟨37000, 39200, 29000, 31000, 0, 6700⟩ ⟨40000000, 31000000, 8000000⟩) =
    some { subject := ⟨11, 1⟩, dir := .xUp, target := ⟨40391608, 31000000, 8000000⟩, length := 391608 } := by decide +kernel

/-- A start refused by the path: the sample 9,000 mm along it, against zone 9 (chapter 5). -/
theorem test_case_path :
    pathCheck .default 300000 [evictionZone 9 .armed ⟨49000, 51000, 33000, 37000, 0, 16000⟩] ⟨40000000, 30000000, 15000000⟩
      ⟨60000000, 40000000, 12000000⟩ = some ⟨9000000 ^ 2, 9⟩ := by decide +kernel

/-- One servo step, and the V of the next (chapter 6). -/
theorem test_case_servo_step :
    let f : Fc :=
      { (flying .cue point State.reset).fc with
        run := some ⟨0, 1, ⟨70000, 30000, 8000⟩, 4000, 100⟩, v := ⟨3000000, 0, 0⟩, nearCap := some 2500, high := true,
        zones := [evictionZone 12 .armed ⟨41700, 42000, 29000, 31000, 0, 30000⟩] }
    let m := stepMotion .default f 0
    m.v = ⟨2190890, 0, 0⟩ ∧ m.p = some ⟨40010954, 30000000, 8000000⟩ ∧ m.cap = (2000, .reducedHigh) ∧
    (stepMotion .default { f with p := m.p, v := m.v } 0).v = ⟨2170799, 0, 0⟩ := by decide +kernel

/-- A heavy pull on winch 2: the tensions of the sets (chapter 9). -/
theorem test_case_tension : [28000, 29500, 29300, 29100].map (tensionOf .default) = [8544, 9002, 8941, 8880] := by decide +kernel

/-- The CRC-16 of the ASCII digits 1 to 9 (R158's polynomial and start value give the check value of that code). -/
theorem test_crc : crc16 [0x31, 0x32, 0x33, 0x34, 0x35, 0x36, 0x37, 0x38, 0x39] = 0x29B1 := by decide +kernel

/-- A ZONE PUT that would need a ninth place is refused PENDING_FULL (9) on the port that asked. -/
theorem test_case_pending_full :
    answered .director (after (.zonePut .director) (handed .director (putPlay none) (pendingFirst 8 State.reset))) = [9, 0] := by
  decide +kernel

/-- ZONE RENEW answers the expiry, the clock value plus the life. -/
theorem test_case_renew :
    answered .director (after (.zoneRenew .director) (handed .director (.zoneRenew 0 1 50) (withZone 0 playZone State.reset))) =
      [0, 0, 0, 0, 0, 50] := by decide +kernel

/-- CLOCK READ of a frozen clock with a held carry. -/
theorem test_case_clock :
    answered .pilot (after (.clockRead .pilot) (handed .pilot .clockRead (clockAs true true State.reset))) = [0, 0, 0, 0, 0, 0, 1, 1] := by
  decide +kernel

/-- RESUME with four links DOWN is refused LINK (22), and with a live cause CAUSE_ACTIVE (18) with the entry. -/
theorem test_case_resume :
    answered .safety (after (.resume .safety) (handed .safety .resume State.reset)) = [22, 0] ∧
    answered .safety (after (.resume .safety) (handed .safety .resume
      { State.reset with fc := { State.reset.fc with causes := [⟨.estop, false⟩, ⟨.overload 1, true⟩] } })) = [18, 0, 1, 6, 1, 2, 0] := by
  decide +kernel

/-- An ESTOP in a run stops flight at once, aborts the head and halts the queue. -/
theorem test_case_estop :
    let u := after .estopAsserted shooting
    u.fc.mode = .stopped ∧ u.fc.v = .zero ∧ u.ct.queue.head? = some (entry0 .auto .aborted) ∧ u.ct.halted = true ∧
    u.fc.causes = [⟨.estop, true⟩] ∧ u.su.driven = .steady := by decide +kernel

/-- An unknown kind is answered UNKNOWN (2), and a request in the queue behind it is handed on. -/
theorem test_case_unknown :
    let u := after (.requestArrival .pilot (requestFrame 0x0F 7 [] (requestCrc 0x0F 7 []))) State.reset
    answered .pilot u = [2, 0] ∧ u.cif.pilot.inProgress = none := by decide +kernel

end Sys2Proof.Machine.Tests
end

section
/-! PROOF. What a request on a named zone leaves of the other slots, and the settling of O14 and O18. -/

namespace Sys2Proof.Machine

/-! ## Slots that a change leaves alone -/

/-- In every slot but one the generation stands, no zone is put or dropped, and the zone there keeps its class, owner and box. -/
def Zt.SameOff (h : ZoneHandle) (t u : Zt) : Prop :=
  ∀ j : ZoneHandle, j ≠ h → u.slots[j].generation = t.slots[j].generation ∧
    (u.zone j).map (fun y => (y.cls, y.owner, y.box)) = (t.zone j).map (fun y => (y.cls, y.owner, y.box))

theorem Zt.SameOff.of_slots {t u : Zt} (e : u.slots = t.slots) (h : ZoneHandle) : t.SameOff h u := by
  intro j _
  simp [Zt.zone, e]

theorem Zt.SameOff.refl (h : ZoneHandle) (t : Zt) : t.SameOff h t := .of_slots rfl h

theorem Zt.SameOff.trans {h : ZoneHandle} {t u v : Zt} (a : t.SameOff h u) (b : u.SameOff h v) : t.SameOff h v :=
  fun j hj => ⟨(b j hj).1.trans (a j hj).1, (b j hj).2.trans (a j hj).2⟩

theorem Zt.SameOff.setZone (t : Zt) (h : ZoneHandle) (z : Option Zone) : t.SameOff h (t.setZone h z) := by
  intro j hj
  rw [Zt.slot_setZone_other t z hj, Zt.zone_setZone_other t z hj]
  exact ⟨rfl, rfl⟩

theorem ZtWork.change_sameOff (w : ZtWork) (h : ZoneHandle) (cls : ZoneClass) (kind : ChangeKind) (after : Option Zone) :
    w.zt.SameOff h (w.change h cls kind after).zt :=
  fun j hj => ⟨w.generation_change h j cls kind after, by rw [w.zone_change_other cls kind after hj]⟩

/-- A change that keeps the changed zone's own class, owner and box keeps them in every slot. -/
theorem ZtWork.change_sameOff_of_kept {w : ZtWork} {a : ZoneHandle} {z z' : Zone} (hz : w.zt.zone a = some z)
    (hk : (z'.cls, z'.owner, z'.box) = (z.cls, z.owner, z.box)) (h : ZoneHandle) (cls : ZoneClass) (kind : ChangeKind) :
    w.zt.SameOff h (w.change a cls kind (some z')).zt := by
  intro j _
  refine ⟨w.generation_change a j cls kind (some z'), ?_⟩
  by_cases hj : j = a
  · subst hj
    rw [w.zone_change_same, hz]
    exact congrArg some hk
  · rw [w.zone_change_other cls kind _ hj]

/-! ## The arming pass and what is handed on -/

theorem ZtWork.armOne_sameOff (g : GeometryCfg) (w : ZtWork) (a h : ZoneHandle) : w.zt.SameOff h (w.armOne g a).zt := by
  unfold ZtWork.armOne
  split
  · next z hz =>
    split
    · exact ZtWork.change_sameOff_of_kept (z' := { z with state := .armed }) hz rfl h _ _
    · exact .refl h _
  · exact .refl h _

/-- The arming pass alters no slot's generation and no zone's class, owner or box (R51). -/
theorem ZtWork.armingPass_sameOff (g : GeometryCfg) (w : ZtWork) (h : ZoneHandle) : w.zt.SameOff h (w.armingPass g).zt := by
  unfold ZtWork.armingPass
  generalize w.zt.queue = l
  induction l generalizing w with
  | nil => exact .refl h _
  | cons a l ih => exact (w.armOne_sameOff g a h).trans (ih (w.armOne g a))

theorem overflowMessages_slots (s : State) : (overflowMessages s).zt.slots = s.zt.slots := by
  unfold overflowMessages
  split <;> simp

theorem handOn_slots (w : ZtWork) (s : State) : (handOn w s).zt.slots = w.zt.slots := by
  have noted : (if w.overflowed then overflowMessages { s with zt := w.zt } else { s with zt := w.zt }).zt.slots = w.zt.slots := by
    split
    · exact overflowMessages_slots _
    · rfl
  unfold handOn
  dsimp only
  split
  · exact noted
  · rw [handReport_zt, noted]

/-- A change of one slot, carried out with the arming pass, the subject and the report, leaves the other slots as SameOff says (R41). -/
theorem carryOut_change_sameOff (h : ZoneHandle) (cls : ZoneClass) (kind : ChangeKind) (after : Option Zone) (s : State) :
    s.zt.SameOff h (carryOut (s.zt.work.change h cls kind after) s).zt :=
  let w := s.zt.work.change h cls kind after
  (s.zt.work.change_sameOff h cls kind after).trans <|
    (w.armingPass_sameOff s.cs.record.geometry h).trans (.of_slots (handOn_slots (w.settle s.cs.record.geometry) s) h)

/-! ## The requests on a named zone -/

theorem zoneShift_sameOff (f : ShiftFields) (h : ZoneHandle) (z : Zone) (s : State) : s.zt.SameOff h (zoneShift f h z s).state.zt := by
  unfold zoneShift
  split
  · exact .refl h _
  · split
    · exact .refl h _
    · dsimp only
      split
      · exact .refl h _
      · exact carryOut_change_sameOff h _ _ _ s

theorem zoneRenew_sameOff (life : Int) (h : ZoneHandle) (z : Zone) (s : State) : s.zt.SameOff h (zoneRenew life h z s).state.zt := by
  unfold zoneRenew
  split
  · exact .refl h _
  · exact .setZone s.zt h _

theorem zoneSuspend_sameOff (h : ZoneHandle) (z : Zone) (s : State) : s.zt.SameOff h (zoneSuspend h z s).state.zt := by
  unfold zoneSuspend
  split
  · exact carryOut_change_sameOff h _ _ _ s
  · exact .refl h _

theorem zoneResume_sameOff (h : ZoneHandle) (z : Zone) (s : State) : s.zt.SameOff h (zoneResume h z s).state.zt := by
  unfold zoneResume
  split
  · exact .refl h _
  · dsimp only
    split
    · exact .refl h _
    · exact carryOut_change_sameOff h _ _ _ s

/-- The role check before an act adds a refusal, which leaves every slot (R22). -/
theorem granted_sameOff {role : Port} {op : ZoneOp} {h : ZoneHandle} {z : Zone} {s : State} {a : Answer}
    (ha : s.zt.SameOff h a.state.zt) :
    s.zt.SameOff h (if zoneGranted s role op z then a else refuse .denied s).state.zt := by
  split
  · exact ha
  · exact .refl h _

/-- Every request that names a zone makes the naming tests first, and what it does then stays off the other slots (R19). -/
theorem asked_zoneName {r : Request} {p : Port} {s : State} {handle gen : Byte} (ha : Asked s p r)
    (hn : r.zoneName = some (handle, gen)) :
    ∃ act : ZoneHandle → Zone → Answer, Gives (r.command p) s p (onZone handle gen s act) ∧
      ∀ h z, s.zt.SameOff h (act h z).state.zt := by
  cases r with
  | zoneShift handle' gen' box guard hyst cap =>
    cases hn
    exact ⟨_, asked_zoneShift ha, fun h z => granted_sameOff (zoneShift_sameOff _ h z s)⟩
  | zoneRenew handle' gen' life =>
    cases hn
    exact ⟨_, asked_zoneRenew ha, fun h z => granted_sameOff (zoneRenew_sameOff life h z s)⟩
  | zoneSuspend handle' gen' =>
    cases hn
    exact ⟨_, asked_zoneSuspend ha, fun h z => granted_sameOff (zoneSuspend_sameOff h z s)⟩
  | zoneResume handle' gen' =>
    cases hn
    exact ⟨_, asked_zoneResume ha, fun h z => granted_sameOff (zoneResume_sameOff h z s)⟩
  | zoneDrop handle' gen' =>
    cases hn
    exact ⟨_, asked_zoneDrop ha, fun h z => granted_sameOff (carryOut_change_sameOff h z.cls .drop none s)⟩
  | zoneRead handle' gen' =>
    cases hn
    exact ⟨_, asked_zoneRead ha, fun h _ => .refl h s.zt⟩
  | _ => cases hn

/-- Settles O14: the naming tests of `onZone` in their order, then an act that stays off the other slots. -/
theorem namedZoneRequestsAreTestedInOrder : Obligations.NamedZoneRequestsAreTestedInOrder := by
  unfold Obligations.NamedZoneRequestsAreTestedInOrder
  intro r p s handle gen ha hn
  obtain ⟨act, hgives, hsame⟩ := asked_zoneName ha hn
  refine ⟨fun hbad => ?badField, fun h hh hfree => ?noZone, fun h z hh hz hgen => ?stale, fun h z hnames => ?acts⟩
  case badField => exact hgives.refuses (onZone_badField hbad act)
  case noZone => exact hgives.refuses (onZone_noZone hh hfree act)
  case stale => exact hgives.refuses (onZone_stale hh hz hgen act)
  case acts => exact ⟨_, _, _, hgives.eq (onZone_of_names hnames act), hsame h z⟩

/-! ## ZONE RENEW -/

theorem onZoneGranted_granted {s : State} {role : Port} {op : ZoneOp} {handle gen : Byte} {h : ZoneHandle} {z : Zone}
    (hn : NamesZone s handle gen h z) (hg : zoneGranted s role op z = true) (act : ZoneHandle → Zone → Answer) :
    onZoneGranted role op handle gen s act = act h z := by
  rw [onZoneGranted, onZone_of_names hn, if_pos hg]

theorem onZoneGranted_denied {s : State} {role : Port} {op : ZoneOp} {handle gen : Byte} {h : ZoneHandle} {z : Zone}
    (hn : NamesZone s handle gen h z) (hg : zoneGranted s role op z = false) (act : ZoneHandle → Zone → Answer) :
    onZoneGranted role op handle gen s act = refuse .denied s := by
  rw [onZoneGranted, onZone_of_names hn, if_neg (by simp [hg])]

/-- A zone takes a life where it is of class PLAY or TEMPORARY and the life is in that class's range (R26). -/
theorem lifeInRange_iff (c : ZoneClass) (life : Int) :
    lifeInRange c life = true ↔
      (c = .play ∧ 10 ≤ life ∧ life ≤ 36000) ∨ (c = .temporary ∧ 10 ≤ life ∧ life ≤ 6000) := by
  cases c <;> simp [lifeInRange, within]

theorem zoneRenew_badField {life : Int} {z : Zone} (hl : ¬ lifeInRange z.cls life = true) (h : ZoneHandle) (s : State) :
    zoneRenew life h z s = refuse .badField s := by
  simp [zoneRenew, hl]

/-- A renewal in range replaces the slot's zone with one of the new expiry and hands on a notice of kind RENEW (R33). -/
theorem zoneRenew_ok {life : Int} {handle gen : Byte} {h : ZoneHandle} {z : Zone} {s : State} (hn : NamesZone s handle gen h z)
    (hl : lifeInRange z.cls life = true) :
    zoneRenew life h z s =
      ⟨.ok, word32 (expiryOf s.zt life),
        notify (.zoneChanged ⟨h, gen⟩ z.cls .renew (some z.state) (some (expiryOf s.zt life)))
          { s with zt := { s.zt with
              slots := put s.zt.slots h { generation := gen, zone := some { z with expiry := some (expiryOf s.zt life) } } } }⟩ := by
  obtain ⟨-, hslot⟩ := hn
  simp only [zoneRenew, hl, Bool.not_true, Bool.false_eq_true, if_false, Zt.setZone]
  rw [hslot]

/-- Settles O18, by the role check, the life's range, and the renewal itself. -/
theorem zoneRenewSetsTheExpiry : Obligations.ZoneRenewSetsTheExpiry := by
  unfold Obligations.ZoneRenewSetsTheExpiry
  intro p handle gen life h z s ha hn
  have hgives := asked_zoneRenew ha
  have refusesLife (hg : zoneGranted s p .put z = true) (hl : ¬ lifeInRange z.cls life = true) :
      Refuses (.zoneRenew p) s p .badField :=
    hgives.refuses ((onZoneGranted_granted hn hg _).trans (zoneRenew_badField hl h s))
  refine ⟨fun hg => ?denied, fun hg hc => ?fixed, fun hg hc hl => ?play, fun hg hc hl => ?temporary, fun hg hl => ?renewed⟩
  case denied => exact hgives.refuses (onZoneGranted_denied hn hg _)
  case fixed => exact refusesLife hg (by simp [lifeInRange_iff, hc])
  case play => exact refusesLife hg (by simpa [lifeInRange_iff, hc] using hl)
  case temporary => exact refusesLife hg (by simpa [lifeInRange_iff, hc] using hl)
  case renewed =>
    exact hgives.to ((onZoneGranted_granted hn hg _).trans (zoneRenew_ok hn ((lifeInRange_iff z.cls life).mpr hl)))

end Sys2Proof.Machine
end

section
/-! PROOF. CLOCK READ at ZT and its check in CIF, and the settling of O23. -/

namespace Sys2Proof.Machine

/-! ## CIF's check of a request that its port is granted -/

/-- Past the kind and the grant, a request is refused only where its body does not fit (R195). -/
theorem checkRequest_of_granted {p : Port} {r : QueuedRequest} {granted : List Port} (hk : fixedGrant r.kind = some granted)
    (hp : p ∈ granted) :
    checkRequest p r = (parseRequest r.kind r.body).elim (.inr .badField) .inl := by
  simp only [checkRequest, hk, hp, not_true_eq_false, if_false]
  cases parseRequest r.kind r.body <;> rfl

@[simp] theorem noFields_nil (request : Request) : noFields request [] = some request := rfl

@[simp] theorem noFields_cons (request : Request) (b : Byte) (bs : List Byte) : noFields request (b :: bs) = none := rfl

/-! ## CLOCK READ -/

theorem fixedGrant_clockRead : fixedGrant 0x22#8 = some [.pilot, .director, .safety] := rfl

theorem parseRequest_clockRead (body : List Byte) : parseRequest 0x22#8 body = noFields .clockRead body := rfl

/-- CIF hands a CLOCK READ of any role to ZT where its body is empty, and refuses it BAD FIELD otherwise. -/
theorem checkRequest_clockRead (p : Port) (tag : Byte) (body : List Byte) :
    checkRequest p { kind := 0x22#8, tag := tag, body := body } = if body = [] then .inl .clockRead else .inr .badField := by
  have hp : p ∈ [Port.pilot, .director, .safety] := by cases p <;> decide
  rw [checkRequest_of_granted fixedGrant_clockRead hp, parseRequest_clockRead]
  cases body with
  | nil => simp
  | cons b bs => simp

/-- Settles O23: ZT's answer is `okWithClock` of the state it finds, and CIF's checks come down to the test of the body. -/
theorem clockReadReportsTheClock : Obligations.ClockReadReportsTheClock := by
  unfold Obligations.ClockReadReportsTheClock
  refine ⟨fun p s ha => ?answers, checkRequest_clockRead⟩
  case answers =>
    have hclock : okWithClock s = ⟨.ok, word32 s.zt.clock ++ flag s.zt.frozen ++ flag s.zt.held, s⟩ := rfl
    exact (asked_clockRead ha).to hclock

end Sys2Proof.Machine
end

section
/-! PROOF. The naming tests of a cue and the checks of QUEUE ADD before them, and the settling of O30. -/

namespace Sys2Proof.Machine

/-! ## Naming -/

theorem onCue_badField {s : State} {handle gen : Byte} (hl : 32 ≤ handle.toNat) (act : CueHandle → Cue → Answer) :
    onCue handle gen s act = refuse .badField s := by
  simp [onCue, Nat.not_lt.mpr hl]

/-- The naming tests read the slot of the handle byte: EMPTY before the generation (R88). -/
theorem onCue_of_handle {handle : Byte} {h : CueHandle} (hh : handle.toNat = h.val) (gen : Byte) (s : State)
    (act : CueHandle → Cue → Answer) :
    onCue handle gen s act =
      (s.ct.cue h).elim (refuse .noCue s) (fun c => if s.ct.slots[h].generation = gen then act h c else refuse .stale s) := by
  have hl : handle.toNat < 32 := hh ▸ h.isLt
  obtain rfl : ⟨handle.toNat, hl⟩ = h := Fin.ext hh
  rw [onCue, dif_pos hl]
  cases s.ct.cue ⟨handle.toNat, hl⟩ <;> rfl

theorem onCue_noCue {s : State} {handle gen : Byte} {h : CueHandle} (hh : handle.toNat = h.val) (hempty : s.ct.cue h = none)
    (act : CueHandle → Cue → Answer) : onCue handle gen s act = refuse .noCue s := by
  rw [onCue_of_handle hh, hempty, Option.elim_none]

theorem onCue_stale {s : State} {handle gen : Byte} {h : CueHandle} (hh : handle.toNat = h.val) (hcue : s.ct.cue h ≠ none)
    (hgen : s.ct.slots[h].generation ≠ gen) (act : CueHandle → Cue → Answer) : onCue handle gen s act = refuse .stale s := by
  obtain ⟨c, hc⟩ := Option.ne_none_iff_exists'.mp hcue
  rw [onCue_of_handle hh, hc, Option.elim_some, if_neg hgen]

/-! ## QUEUE ADD's checks before the naming tests -/

/-- The start kinds are the bytes 0 and 1 (R96, R192). -/
theorem startKindOf_eq_none_iff (b : Byte) : startKindOf b = none ↔ 1 < b.toNat := by
  by_cases h0 : b = 0
  · subst h0
    decide
  · by_cases h1 : b = 1
    · subst h1
      decide
    · have hn0 : b.toNat ≠ 0 := fun h => h0 (BitVec.eq_of_toNat_eq h)
      have hn1 : b.toNat ≠ 1 := fun h => h1 (BitVec.eq_of_toNat_eq h)
      have hnone : startKindOf b = none := by rw [startKindOf, if_neg h0, if_neg h1]
      exact iff_of_true hnone (by omega)

theorem queueAdd_denied {role : Port} {s : State} (hg : queueGrants s.cs.record.matrix.queueAdd role = false)
    (handle gen kind : Byte) : queueAdd role handle gen kind s = refuse .denied s := by
  simp [queueAdd, hg]

theorem queueAdd_badStartKind {role : Port} {kind : Byte} {s : State} (hg : queueGrants s.cs.record.matrix.queueAdd role = true)
    (hk : startKindOf kind = none) (handle gen : Byte) : queueAdd role handle gen kind s = refuse .badField s := by
  simp [queueAdd, hg, hk]

/-- Past the role and the start kind, QUEUE ADD makes the naming tests, then the test of the queue's room (R104). -/
theorem queueAdd_of_startKind {role : Port} {kind : Byte} {k : StartKind} {s : State}
    (hg : queueGrants s.cs.record.matrix.queueAdd role = true) (hk : startKindOf kind = some k) (handle gen : Byte) :
    queueAdd role handle gen kind s =
      onCue handle gen s (fun h _ => if 6 ≤ s.ct.queue.length then refuse .queueFull s else carryOutAdd h k s) := by
  simp [queueAdd, hg, hk]

/-! ## The requests on a named cue -/

/-- CUE DROP and CUE READ make the naming tests before anything else (R88). -/
theorem asked_cueName {r : Request} {p : Port} {s : State} {handle gen : Byte} (ha : Asked s p r)
    (hn : r.cueName = some (handle, gen)) :
    ∃ act : CueHandle → Cue → Answer, Gives (r.command p) s p (onCue handle gen s act) := by
  cases r with
  | cueDrop handle' gen' =>
    cases hn
    exact ⟨_, asked_cueDrop ha⟩
  | cueRead handle' gen' =>
    cases hn
    exact ⟨_, asked_cueRead ha⟩
  | _ => cases hn

/-- A QUEUE ADD of a granted role and a known start kind comes down to the naming tests (R88, R104). -/
theorem asked_queueAdd_onCue {p : Port} {s : State} {handle gen kind : Byte} (ha : Asked s p (.queueAdd handle gen kind))
    (hk : kind.toNat ≤ 1) (hg : queueGrants s.cs.record.matrix.queueAdd p = true) :
    ∃ act : CueHandle → Cue → Answer, Gives (.queueAdd p) s p (onCue handle gen s act) := by
  have known : startKindOf kind ≠ none := fun hnone => absurd ((startKindOf_eq_none_iff kind).mp hnone) (Nat.not_lt.mpr hk)
  obtain ⟨k, hkind⟩ := Option.ne_none_iff_exists'.mp known
  exact ⟨_, (asked_queueAdd ha).eq (queueAdd_of_startKind hg hkind handle gen)⟩

/-- Settles O30: each of the three requests comes down to `onCue`, whose refusals are the naming tests in their order, and QUEUE ADD's own
two checks stand before it. -/
theorem namedCueRequestsAreTestedInOrder : Obligations.NamedCueRequestsAreTestedInOrder := by
  unfold Obligations.NamedCueRequestsAreTestedInOrder
  refine ⟨fun r p s handle gen ha hnames => ?naming, fun p s handle gen kind ha => ⟨fun hg => ?denied, fun hg hk => ?startKind⟩⟩
  case naming =>
    have named : ∃ act : CueHandle → Cue → Answer, Gives (r.command p) s p (onCue handle gen s act) := by
      obtain hn | ⟨kind, rfl, hk, hg⟩ := hnames
      · exact asked_cueName ha hn
      · exact asked_queueAdd_onCue ha hk hg
    obtain ⟨act, hgives⟩ := named
    refine ⟨fun hbad => ?badField, fun h hh hempty => ?noCue, fun h hh hcue hgen => ?stale⟩
    case badField => exact hgives.refuses (onCue_badField hbad act)
    case noCue => exact hgives.refuses (onCue_noCue hh hempty act)
    case stale => exact hgives.refuses (onCue_stale hh hcue hgen act)
  case denied => exact (asked_queueAdd ha).refuses (queueAdd_denied hg handle gen kind)
  case startKind =>
    exact (asked_queueAdd ha).refuses (queueAdd_badStartKind hg ((startKindOf_eq_none_iff kind).mpr hk) handle gen)

end Sys2Proof.Machine
end

section
/-! PROOF. COUNTERS at WLC and its check in CIF, and the settling of O51. -/

namespace Sys2Proof.Machine

/-! ## The winch number and the flag of a request -/

theorem winchOf_eq_none {n : Byte} (h : n.toNat = 0 ∨ 4 < n.toNat) : winchOf n = none :=
  dif_neg (by omega)

theorem winchOf_eq_some {n : Byte} {w : Winch} (h : n.toNat = w.val + 1) : winchOf n = some w := by
  have hrange : 1 ≤ n.toNat ∧ n.toNat ≤ 4 := by omega
  have hw : n.toNat - 1 = w.val := by omega
  simp [winchOf, hrange, hw]

theorem flagOf_zero : flagOf 0 = some false := rfl

theorem flagOf_one : flagOf 1 = some true := rfl

/-! ## COUNTERS -/

theorem countersRequest_badField {winch : Byte} (hw : winchOf winch = none) (clear : Byte) (s : State) :
    countersRequest winch clear s = refuse .badField s := by
  simp only [countersRequest, hw]

/-- A reading that does not clear leaves the state as it is (R167). -/
theorem countersRequest_read {winch clear : Byte} {w : Winch} (hw : winchOf winch = some w) (hc : flagOf clear = some false)
    (s : State) :
    countersRequest winch clear s = ⟨.ok, u8 (winchNumber w) ++ s.wlc[w].counters.bytes ++ flag false, s⟩ := by
  simp only [countersRequest, hw, hc, Bool.false_eq_true, if_false]

/-- A reading that clears carries the counters from before the clear, and writes back the winch's link with nothing but its counters
changed (R167). -/
theorem countersRequest_clear {winch clear : Byte} {w : Winch} (hw : winchOf winch = some w) (hc : flagOf clear = some true)
    (s : State) :
    countersRequest winch clear s =
      ⟨.ok, u8 (winchNumber w) ++ s.wlc[w].counters.bytes ++ flag true,
        setLink w { s.wlc[w] with counters := ⟨0, 0, 0, 0, 0⟩ } s⟩ := by
  simp only [countersRequest, hw, hc, if_true]

theorem fixedGrant_counters : fixedGrant 0x52#8 = some [.pilot, .director, .safety] := rfl

theorem parseRequest_counters (winch clear : Byte) : parseRequest 0x52#8 [winch, clear] = some (.counters winch clear) := rfl

/-- CIF hands a COUNTERS of any role with a body of two bytes to WLC (R167, R195). -/
theorem checkRequest_counters (p : Port) (tag winch clear : Byte) :
    checkRequest p { kind := 0x52#8, tag := tag, body := [winch, clear] } = .inl (.counters winch clear) := by
  have hp : p ∈ [Port.pilot, .director, .safety] := by cases p <;> decide
  rw [checkRequest_of_granted fixedGrant_counters hp, parseRequest_counters, Option.elim_some]

/-- Settles O51: CIF's check, and the three answers of `countersRequest` by the winch number and the flag. -/
theorem countersAreReadAndCleared : Obligations.CountersAreReadAndCleared := by
  unfold Obligations.CountersAreReadAndCleared
  refine ⟨checkRequest_counters, fun p wb cb s ha => ⟨fun hbad => ?badField, fun w hw => ⟨?read, ?clear⟩⟩⟩
  case badField => exact (asked_counters ha).refuses (countersRequest_badField (winchOf_eq_none hbad) cb s)
  case read =>
    rintro rfl
    exact (asked_counters ha).to (countersRequest_read (winchOf_eq_some hw) flagOf_zero s)
  case clear =>
    rintro rfl
    exact (asked_counters ha).to (countersRequest_clear (winchOf_eq_some hw) flagOf_one s)

end Sys2Proof.Machine
end

section
/-! PROOF. ACKNOWLEDGE at SU and its check in CIF, and the settling of O55. -/

namespace Sys2Proof.Machine

/-! ## The conditions that a number names -/

/-- The test behind `namedConditions`: FFh names every condition, any other number the condition of that number (R201). -/
def namesCondition (number : Byte) (n : Fin 43) : Bool := decide (number = 0xFF#8) || decide (number.toNat = n.val)

theorem namesCondition_all (n : Fin 43) : namesCondition 0xFF#8 n = true := rfl

theorem namedConditions_eq_none {number : Byte} (hrange : 43 ≤ number.toNat) (hall : number ≠ 0xFF#8) :
    namedConditions number = none := by
  simp [namedConditions, hrange, hall]

theorem filter_namesCondition_of_lt {number : Byte} (h : number.toNat < 43) :
    (handles 43).filter (namesCondition number) = [⟨number.toNat, h⟩] := by
  have hall : number ≠ 0xFF#8 := by rintro rfl; exact absurd h (by decide)
  have hnames : namesCondition number = (· == ⟨number.toNat, h⟩) := by
    funext n
    rw [Bool.eq_iff_iff]
    simp only [namesCondition, hall, decide_false, Bool.false_or, decide_eq_true_eq, beq_iff_eq, Fin.ext_iff, eq_comm (a := n.val)]
  rw [hnames, List.filter_beq, (List.nodup_finRange 43).count, if_pos (List.mem_finRange _), List.replicate_one]

theorem namedConditions_eq_filter {number : Byte} (h : number.toNat < 43 ∨ number = 0xFF#8) :
    namedConditions number = some ((handles 43).filter (namesCondition number)) := by
  obtain hone | rfl := h
  · rw [filter_namesCondition_of_lt hone, namedConditions, dif_pos hone]
  · exact congrArg some (List.filter_eq_self.mpr fun n _ => namesCondition_all n).symm

/-! ## Acknowledging a list of conditions -/

theorem acknowledgeOne_of_live {u : Su} {m : Fin 43} (h : u.conds[m].live = true) : acknowledgeOne u m = u := if_pos h

theorem acknowledgeOne_of_not_live {u : Su} {m : Fin 43} (h : u.conds[m].live = false) :
    acknowledgeOne u m = { u with conds := put u.conds m ⟨false, false⟩ } :=
  if_neg (ne_true_of_eq_false h)

theorem acknowledgeOne_conds_other (u : Su) {m n : Fin 43} (h : n ≠ m) : (acknowledgeOne u m).conds[n] = u.conds[n] := by
  cases hlive : u.conds[m].live with
  | false => rw [acknowledgeOne_of_not_live hlive, put_other _ _ _ _ h]
  | true => rw [acknowledgeOne_of_live hlive]

/-- An acknowledgement alters the flags alone: the airborne indication, the driven pattern and its period stand (R201). -/
theorem foldl_acknowledgeOne_frame (ns : List (Fin 43)) (u : Su) :
    ns.foldl acknowledgeOne u = { u with conds := (ns.foldl acknowledgeOne u).conds } := by
  induction ns generalizing u with
  | nil => rfl
  | cons m ns ih =>
    have hone : acknowledgeOne u m = { u with conds := (acknowledgeOne u m).conds } := by
      cases hlive : u.conds[m].live with
      | false => rw [acknowledgeOne_of_not_live hlive]
      | true => rw [acknowledgeOne_of_live hlive]
    rw [List.foldl_cons, ih, hone]

/-- Each condition of the list that is not live ends with both flags clear, and no other condition changes (R201). -/
theorem foldl_acknowledgeOne_conds (ns : List (Fin 43)) (u : Su) (n : Fin 43) :
    (ns.foldl acknowledgeOne u).conds[n] = if n ∈ ns ∧ u.conds[n].live = false then ⟨false, false⟩ else u.conds[n] := by
  induction ns generalizing u with
  | nil => simp
  | cons m ns ih =>
    rw [List.foldl_cons, ih]
    by_cases hn : n = m
    · subst hn
      cases hlive : u.conds[n].live with
      | false => simp only [acknowledgeOne_of_not_live hlive, put_same, List.mem_cons_self, and_self, and_true, if_true, ite_self]
      | true => simp only [acknowledgeOne_of_live hlive, hlive, Bool.true_eq_false, and_false, if_false]
    · simp only [acknowledgeOne_conds_other u hn, List.mem_cons, hn, false_or]

/-! ## ACKNOWLEDGE -/

theorem acknowledge_badField {number : Byte} (h : namedConditions number = none) (s : State) :
    acknowledge number s = refuse .badField s := by
  simp only [acknowledge, h]

/-- The two counts of the answer are of the latched conditions named that are not live, and of those that are (R201). -/
theorem acknowledge_ok {number : Byte} {ns : List (Fin 43)} (h : namedConditions number = some ns) (s : State) :
    acknowledge number s =
      ⟨.ok, u8 (ns.filter (fun n => s.su.conds[n].latched && !s.su.conds[n].live)).length ++
          u8 (ns.filter (fun n => s.su.conds[n].latched && s.su.conds[n].live)).length,
        { s with su := ns.foldl acknowledgeOne s.su }⟩ := by
  have hsplit := List.length_eq_countP_add_countP (fun n => s.su.conds[n].live) (l := ns.filter (fun n => s.su.conds[n].latched))
  simp only [List.countP_eq_length_filter, List.filter_filter, Bool.not_eq_true, Bool.decide_eq_false] at hsplit
  simp only [acknowledge, h, List.filter_filter, hsplit, Nat.add_sub_cancel_left, Bool.and_comm]

theorem fixedGrant_acknowledge : fixedGrant 0x59#8 = some [.pilot, .director, .safety] := rfl

theorem parseRequest_acknowledge (n : Byte) : parseRequest 0x59#8 [n] = some (.acknowledge n) := rfl

/-- CIF hands an ACKNOWLEDGE of any role with a body of one byte to SU (R195, R201). -/
theorem checkRequest_acknowledge (p : Port) (tag n : Byte) :
    checkRequest p { kind := 0x59#8, tag := tag, body := [n] } = .inl (.acknowledge n) := by
  have hp : p ∈ [Port.pilot, .director, .safety] := by cases p <;> decide
  rw [checkRequest_of_granted fixedGrant_acknowledge hp, parseRequest_acknowledge, Option.elim_some]

/-- Settles O55: CIF's check, and the two answers of `acknowledge` by the conditions that the number names. -/
theorem acknowledgeClearsLatchedFlags : Obligations.AcknowledgeClearsLatchedFlags := by
  unfold Obligations.AcknowledgeClearsLatchedFlags
  refine ⟨checkRequest_acknowledge, fun p number s ha => ?_⟩
  dsimp only
  refine ⟨fun hrange hall => ?badField, fun hnumber => ?ok⟩
  case badField => exact (asked_acknowledge ha).refuses (acknowledge_badField (namedConditions_eq_none hrange hall) s)
  case ok =>
    have hok := acknowledge_ok (namedConditions_eq_filter hnumber) s
    refine ⟨_, (asked_acknowledge ha).to (hok.trans (congrArg (Answer.mk .ok · _) ?content)), ?frame, fun n => ?flags⟩
    case content => simp only [List.filter_filter, namesCondition, Bool.and_comm, Bool.and_left_comm, Bool.and_assoc]
    case frame => exact congrArg (fun v => { s with su := v }) (foldl_acknowledgeOne_frame _ s.su)
    case flags =>
      rw [foldl_acknowledgeOne_conds]
      simp only [List.mem_filter, List.mem_finRange, true_and, namesCondition]

end Sys2Proof.Machine
end

section
/-! PROOF. Which blocks of the part each operation can change. -/

namespace Sys2Proof.Machine

set_option Elab.async false

/-! ## Changes within some blocks -/

/-- The blocks of the part and what lies between them: every field of State but the queue of waiting commands. -/
inductive Region where
  | part
  | cif
  | zt
  | ct
  | fc
  | wlc
  | lm
  | su
  | cs
  | chan

/-- Two states agree on a region. -/
def Agree (s u : State) : Region → Prop
  | .part => u.part = s.part
  | .cif => u.cif = s.cif
  | .zt => u.zt = s.zt
  | .ct => u.ct = s.ct
  | .fc => u.fc = s.fc
  | .wlc => u.wlc = s.wlc
  | .lm => u.lm = s.lm
  | .su => u.su = s.su
  | .cs => u.cs = s.cs
  | .chan => u.chan = s.chan

/-- Nothing differs but some regions; the queue of waiting commands is the same. -/
def ChangesOnly (rs : List Region) (s u : State) : Prop := u.pending = s.pending ∧ ∀ r, r ∉ rs → Agree s u r

section
variable {rs rs' : List Region} {s t u : State}

theorem ChangesOnly.refl (s : State) : ChangesOnly rs s s := ⟨rfl, fun r _ => by cases r <;> rfl⟩

theorem ChangesOnly.trans (h : ChangesOnly rs s t) (k : ChangesOnly rs t u) : ChangesOnly rs s u := by
  refine ⟨k.1.trans h.1, fun r hr => ?_⟩
  have h' := h.2 r hr
  have k' := k.2 r hr
  cases r <;> exact Eq.trans k' h'

theorem ChangesOnly.mono (h : ChangesOnly rs s u) (hs : rs ⊆ rs' := by simp) : ChangesOnly rs' s u :=
  ⟨h.1, fun r hr => h.2 r (fun k => hr (hs k))⟩

theorem ChangesOnly.ite {c : Prop} [Decidable c] (h : ChangesOnly rs s t) (k : ChangesOnly rs s u) :
    ChangesOnly rs s (if c then t else u) := by split <;> assumption

theorem ChangesOnly.foldl {α : Type} {f : State → α → State} (h : ∀ s a, ChangesOnly rs s (f s a)) (l : List α) (s : State) :
    ChangesOnly rs s (l.foldl f s) := by
  induction l generalizing s with
  | nil => exact .refl s
  | cons a l ih => exact (h s a).trans (ih _)

theorem ChangesOnly.part (h : ChangesOnly rs s u) (hr : .part ∉ rs := by simp) : u.part = s.part := h.2 .part hr
theorem ChangesOnly.cif (h : ChangesOnly rs s u) (hr : .cif ∉ rs := by simp) : u.cif = s.cif := h.2 .cif hr
theorem ChangesOnly.zt (h : ChangesOnly rs s u) (hr : .zt ∉ rs := by simp) : u.zt = s.zt := h.2 .zt hr
theorem ChangesOnly.ct (h : ChangesOnly rs s u) (hr : .ct ∉ rs := by simp) : u.ct = s.ct := h.2 .ct hr
theorem ChangesOnly.fc (h : ChangesOnly rs s u) (hr : .fc ∉ rs := by simp) : u.fc = s.fc := h.2 .fc hr
theorem ChangesOnly.wlc (h : ChangesOnly rs s u) (hr : .wlc ∉ rs := by simp) : u.wlc = s.wlc := h.2 .wlc hr
theorem ChangesOnly.lm (h : ChangesOnly rs s u) (hr : .lm ∉ rs := by simp) : u.lm = s.lm := h.2 .lm hr
theorem ChangesOnly.su (h : ChangesOnly rs s u) (hr : .su ∉ rs := by simp) : u.su = s.su := h.2 .su hr
theorem ChangesOnly.cs (h : ChangesOnly rs s u) (hr : .cs ∉ rs := by simp) : u.cs = s.cs := h.2 .cs hr
theorem ChangesOnly.chan (h : ChangesOnly rs s u) (hr : .chan ∉ rs := by simp) : u.chan = s.chan := h.2 .chan hr

/-- A change of one region is within every list that holds it. -/
theorem ChangesOnly.of_region (r : Region) (hr : r ∈ rs) (hp : u.pending = s.pending) (h : ∀ q, q ≠ r → Agree s u q) :
    ChangesOnly rs s u := ⟨hp, fun q hq => h q (fun e => hq (e ▸ hr))⟩

theorem changes_part (s : State) (x : Part) (hr : .part ∈ rs := by simp) : ChangesOnly rs s { s with part := x } :=
  .of_region .part hr rfl fun q hq => by cases q <;> first | rfl | exact absurd rfl hq
theorem changes_cif (s : State) (x : Cif) (hr : .cif ∈ rs := by simp) : ChangesOnly rs s { s with cif := x } :=
  .of_region .cif hr rfl fun q hq => by cases q <;> first | rfl | exact absurd rfl hq
theorem changes_zt (s : State) (x : Zt) (hr : .zt ∈ rs := by simp) : ChangesOnly rs s { s with zt := x } :=
  .of_region .zt hr rfl fun q hq => by cases q <;> first | rfl | exact absurd rfl hq
theorem changes_ct (s : State) (x : Ct) (hr : .ct ∈ rs := by simp) : ChangesOnly rs s { s with ct := x } :=
  .of_region .ct hr rfl fun q hq => by cases q <;> first | rfl | exact absurd rfl hq
theorem changes_fc (s : State) (x : Fc) (hr : .fc ∈ rs := by simp) : ChangesOnly rs s { s with fc := x } :=
  .of_region .fc hr rfl fun q hq => by cases q <;> first | rfl | exact absurd rfl hq
theorem changes_wlc (s : State) (x : Vector Link 4) (hr : .wlc ∈ rs := by simp) : ChangesOnly rs s { s with wlc := x } :=
  .of_region .wlc hr rfl fun q hq => by cases q <;> first | rfl | exact absurd rfl hq
theorem changes_lm (s : State) (x : Lm) (hr : .lm ∈ rs := by simp) : ChangesOnly rs s { s with lm := x } :=
  .of_region .lm hr rfl fun q hq => by cases q <;> first | rfl | exact absurd rfl hq
theorem changes_su (s : State) (x : Su) (hr : .su ∈ rs := by simp) : ChangesOnly rs s { s with su := x } :=
  .of_region .su hr rfl fun q hq => by cases q <;> first | rfl | exact absurd rfl hq
theorem changes_cs (s : State) (x : Cs) (hr : .cs ∈ rs := by simp) : ChangesOnly rs s { s with cs := x } :=
  .of_region .cs hr rfl fun q hq => by cases q <;> first | rfl | exact absurd rfl hq
theorem changes_chan (s : State) (x : Channels) (hr : .chan ∈ rs := by simp) : ChangesOnly rs s { s with chan := x } :=
  .of_region .chan hr rfl fun q hq => by cases q <;> first | rfl | exact absurd rfl hq

end

/-! ## Messages, ports and timers -/

theorem changes_tellFc (b : Block) (m : FcMsg) (s : State) : ChangesOnly [.chan] s (tellFc b m s) := by
  cases b <;> first | exact .refl s | exact changes_chan s _

theorem changes_tellSu (b : Block) (m : SuMsg) (s : State) : ChangesOnly [.chan] s (tellSu b m s) := by
  cases b <;> exact changes_chan s _

theorem changes_notify (n : Notice) (s : State) : ChangesOnly [.chan] s (notify n s) := changes_chan s _

theorem changes_notifyAll (ns : List Notice) (s : State) : ChangesOnly [.chan] s (notifyAll ns s) := changes_chan s _

theorem changes_withPort (p : Port) (f : PortState → PortState) (s : State) : ChangesOnly [.cif] s (withPort p f s) := changes_cif s _

theorem changes_respond (p : Port) (r : Result) (c : List Byte) (s : State) : ChangesOnly [.cif] s (respond p r c s) :=
  changes_withPort p _ s

theorem changes_atExpiry (due : PartTime) (s : State) : ChangesOnly [.part] s (atExpiry due s) := changes_part s _

section
variable {rs : List Region} {s : State}

/-- A command answers a next state in which nothing but some regions differs. -/
def AnswersWithin (rs : List Region) (s : State) (o : Outcome) : Prop := ∃ u, o = .next u ∧ ChangesOnly rs s u

theorem AnswersWithin.refl : AnswersWithin rs s (.next s) := ⟨s, rfl, .refl s⟩

theorem AnswersWithin.changes {o : Outcome} {u : State} (h : AnswersWithin rs s o) (e : o = .next u) : ChangesOnly rs s u := by
  obtain ⟨v, hv, hc⟩ := h
  cases hv.symm.trans e
  exact hc

theorem whileRunning_within {f : State → State} (h : ChangesOnly rs s (f s)) : AnswersWithin rs s (whileRunning f s) :=
  ⟨_, rfl, .ite h (.refl s)⟩

/-- A timer's expiry changes part time and what its effect changes. -/
theorem onExpiry_within {timer : Option PartTime} {effect : State → State} (h : ∀ t, ChangesOnly rs t (effect t)) :
    AnswersWithin (.part :: rs) s (onExpiry timer effect s) := by
  obtain e | ⟨due, -, -, e⟩ := onExpiry_cases timer effect s
  · rw [e]; exact .refl
  · exact ⟨_, e, (changes_part s _).trans ((h _).mono)⟩

theorem changes_takeMsg {s : State} {c : Channels} {f : State → State} (h : ∀ t, ChangesOnly rs t (f t)) :
    ChangesOnly (.chan :: rs) s (f { s with chan := c }) := (changes_chan s c).trans ((h _).mono)

theorem takeFc_within {b : Block} {effect : FcMsg → Option (State → State)}
    (h : ∀ m f, effect m = some f → ∀ t, ChangesOnly rs t (f t)) : AnswersWithin (.chan :: rs) s (takeFc b effect s) := by
  obtain e | ⟨m, rest, f, -, hf, -, e⟩ := takeFc_cases b effect s
  · rw [e]; exact .refl
  · exact ⟨_, e, changes_takeMsg (h m f hf)⟩

theorem takeSu_within {b : Block} {effect : SuMsg → Option (State → State)}
    (h : ∀ m f, effect m = some f → ∀ t, ChangesOnly rs t (f t)) : AnswersWithin (.chan :: rs) s (takeSu b effect s) := by
  obtain e | ⟨m, rest, f, -, hf, -, e⟩ := takeSu_cases b effect s
  · rw [e]; exact .refl
  · exact ⟨_, e, changes_takeMsg (h m f hf)⟩

end

/-! ## The Zone Table -/

theorem changes_overflowMessages (s : State) : ChangesOnly [.zt, .chan] s (overflowMessages s) := by
  unfold overflowMessages
  refine .trans ?_ (changes_tellFc _ _ _).mono
  exact .ite (.refl s) ((changes_zt s _).trans (changes_tellSu _ _ _).mono)

theorem changes_handReport (es : List ChangeEntry) (s : State) : ChangesOnly [.chan] s (handReport es s) :=
  ((changes_chan s _).trans (changes_tellFc _ _ _)).trans (changes_notifyAll _ _)

theorem changes_handSummary (s : State) : ChangesOnly [.chan] s (handSummary s) := changes_tellFc _ _ s

theorem changes_handOn (w : ZtWork) (s : State) : ChangesOnly [.zt, .chan] s (handOn w s) := by
  have noted : ChangesOnly [.zt, .chan] s (if w.overflowed then overflowMessages { s with zt := w.zt } else { s with zt := w.zt }) :=
    .ite ((changes_zt s _).trans (changes_overflowMessages _)) (changes_zt s _)
  exact .ite noted (noted.trans (changes_handReport _ _).mono)

theorem changes_carryOut (w : ZtWork) (s : State) : ChangesOnly [.zt, .chan] s (carryOut w s) := changes_handOn _ s

theorem changes_evaluateReport (s : State) : ChangesOnly [.zt, .chan] s (evaluateReport s) := by
  unfold evaluateReport
  dsimp only
  split
  · exact (changes_handOn _ s).trans (changes_handSummary _).mono
  · exact changes_handOn _ s

theorem changes_invalidReport (s : State) : ChangesOnly [.zt, .chan] s (invalidReport s) :=
  (changes_zt s _).trans (changes_handSummary _).mono

theorem changes_takePositionReport (r : PositionReport) (s : State) : ChangesOnly [.zt, .chan] s (takePositionReport r s) :=
  .ite ((changes_zt s _).trans (changes_evaluateReport _)) ((changes_zt s _).trans (changes_invalidReport _))

theorem changes_clearOverflow (s : State) : ChangesOnly [.zt, .chan] s (clearOverflow s) :=
  .ite ((changes_zt s _).trans (changes_tellSu _ _ _).mono) (.refl s)

theorem changes_advance (s : State) : ChangesOnly [.zt, .chan] s (advance s) := by
  unfold advance
  dsimp only
  split
  · exact changes_zt s _
  · exact changes_carryOut _ s

theorem changes_carryFalls (s : State) : ChangesOnly [.zt, .chan] s (carryFalls s) :=
  .ite ((changes_zt s _).trans (changes_zt _ _)) ((changes_zt s _).trans (changes_advance _))

theorem changes_thaw (s : State) : ChangesOnly [.zt, .chan] s (thaw s) := by
  unfold thaw
  exact .ite (.refl s) (.ite ((changes_zt s _).trans (changes_advance _)) (changes_zt s _))

section
variable {rs : List Region} {s : State} {a : Answer}

/-- A refusal in front of an answer changes nothing more. -/
theorem ChangesOnly.orRefuse {c : Prop} [Decidable c] {r : Result} (h : ChangesOnly rs s a.state) :
    ChangesOnly rs s (if c then refuse r s else a).state := by
  split
  · exact .refl s
  · exact h

theorem onZone_changes {handle gen : Byte} {act : ZoneHandle → Zone → Answer} (h : ∀ h z, ChangesOnly rs s (act h z).state) :
    ChangesOnly rs s (onZone handle gen s act).state := by
  unfold onZone
  split
  · split
    · exact .refl s
    · split
      · exact h _ _
      · exact .refl s
  · exact .refl s

theorem onZoneGranted_changes {p : Port} {op : ZoneOp} {handle gen : Byte} {act : ZoneHandle → Zone → Answer}
    (h : ∀ h z, ChangesOnly rs s (act h z).state) : ChangesOnly rs s (onZoneGranted p op handle gen s act).state :=
  onZone_changes fun h' z => by
    split
    · exact h h' z
    · exact .refl s

end

theorem zonePut_changes (p : Port) (f : PutFields) (s : State) : ChangesOnly [.zt, .chan] s (zonePut p f s).state := by
  unfold zonePut
  refine .orRefuse (.orRefuse (.orRefuse ?_))
  split
  · exact .refl s
  · exact .orRefuse (changes_carryOut _ s)

theorem zoneShift_changes (f : ShiftFields) (h : ZoneHandle) (z : Zone) (s : State) :
    ChangesOnly [.zt, .chan] s (zoneShift f h z s).state :=
  .orRefuse (.orRefuse (.orRefuse (changes_carryOut _ s)))

theorem zoneRenew_changes (life : Int) (h : ZoneHandle) (z : Zone) (s : State) :
    ChangesOnly [.zt, .chan] s (zoneRenew life h z s).state :=
  .orRefuse ((changes_zt s _).trans (changes_notify _ _).mono)

theorem zoneSuspend_changes (h : ZoneHandle) (z : Zone) (s : State) : ChangesOnly [.zt, .chan] s (zoneSuspend h z s).state := by
  unfold zoneSuspend
  split
  · exact changes_carryOut _ s
  · exact .refl s

theorem zoneResume_changes (h : ZoneHandle) (z : Zone) (s : State) : ChangesOnly [.zt, .chan] s (zoneResume h z s).state := by
  unfold zoneResume
  split
  · exact .refl s
  · exact .orRefuse (changes_carryOut _ s)

theorem okWithCount_changes (n : Nat) (w : ZtWork) (s : State) : ChangesOnly [.zt, .chan] s (okWithCount n w s).state :=
  .ite (.refl s) (changes_carryOut w s)

theorem groupSuspend_changes (p : Port) (group : Byte) (s : State) : ChangesOnly [.zt, .chan] s (groupSuspend p group s).state :=
  .orRefuse (okWithCount_changes _ _ s)

theorem groupResume_changes (p : Port) (group : Byte) (s : State) : ChangesOnly [.zt, .chan] s (groupResume p group s).state :=
  .orRefuse (.orRefuse (okWithCount_changes _ _ s))

/-! ## Flight and the shot queue -/

/-- The frame of flight's operations, as regions. -/
theorem FlightFrame.changes {s u : State} (h : FlightFrame s u) : ChangesOnly [.ct, .fc, .wlc, .chan] s u := by
  refine ⟨h.pending, fun r hr => ?_⟩
  cases r with
  | part => exact h.part
  | cif => exact h.cif
  | zt => exact h.zt
  | lm => exact h.lm
  | su => exact h.su
  | cs => exact h.cs
  | _ => simp at hr

theorem clearIfNoSubject_frame (s : State) : FlightFrame s (clearIfNoSubject s) :=
  .ite (setEvictBlocked_frame false s) (.refl s)

theorem endEviction_frame (s : State) : FlightFrame s (endEviction s) :=
  (frame_of_fc_ct s { s.fc with evict := none } s.ct ⟨rfl, rfl, rfl⟩ rfl).trans (enterHold_frame _ _)

theorem reportOnEviction_frame (r : ChangeReport) (s : State) : FlightFrame s (reportOnEviction r s) := by
  unfold reportOnEviction
  split
  · exact endEviction_frame s
  · exact .ite (endEviction_frame s) (.ite (chooseAgain_frame s) (.ite (chooseAgain_frame s) (.refl s)))

theorem recheckFails_frame (s : State) : FlightFrame s (recheckFails s) :=
  .ite ((haltHead_frame .cut s).trans (enterHold_frame _ _)) (blockReturn_frame s)

theorem recheckPath_frame (s : State) : FlightFrame s (recheckPath s) := by
  unfold recheckPath
  split
  · exact .refl s
  · exact .ite (recheckFails_frame s) (.refl s)

theorem retryReturn_frame (b : Bool) (s : State) : FlightFrame s (retryReturn b s) :=
  .ite (startReturnInHold_frame s) (.refl s)

theorem reportStep2_frame (r : ChangeReport) (s : State) : FlightFrame s (reportStep2 r s) :=
  .ite (reportOnEviction_frame r s) ((clearIfNoSubject_frame s).trans (evictionTest_frame _))

theorem summaryActs_frame (s : State) : FlightFrame s (summaryActs s) := by
  unfold summaryActs
  exact .ite (.ite (.refl s) (endEviction_frame s))
    (.ite (clearIfNoSubject_frame s) ((clearIfNoSubject_frame s).trans (evictionTest_frame _)))

/-- The rest of a change report after FC's copies. -/
theorem takeChangeReport_frame (r : ChangeReport) (s : State) : FlightFrame (takeCopies r s) (takeChangeReport r s) :=
  (((reportStep2_frame r _).trans (recheckPath_frame _)).trans (retryReturn_frame _ _)).trans (reportQueue_frame _ _)

/-- The rest of a zone summary after FC's copies. -/
theorem takeSummary_frame (c : Option Int) (n : Option ZoneName) (s : State) :
    FlightFrame { s with fc := { s.fc with nearCap := c, subject := n } } (takeSummary c n s) :=
  (summaryActs_frame _).trans (reportQueue_frame _ _)

theorem changes_raiseCause (c : Cause) (s : State) : ChangesOnly [.ct, .fc, .wlc, .chan] s (raiseCause c s) := by
  unfold raiseCause
  refine .ite (changes_fc s _) (.ite (changes_fc s _) ?_)
  exact ((changes_fc s _).trans (enterStopped_frame _).changes).trans (reportQueue_frame _ _).changes

theorem changes_clearCause (c : Cause) (s : State) : ChangesOnly [.fc] s (clearCause c s) := changes_fc s _

theorem changes_takeDriveStatus (w : Winch) (d : DriveStatus) (s : State) :
    ChangesOnly [.ct, .fc, .wlc, .chan] s (takeDriveStatus w d s) := by
  refine .trans ?_ (reportQueue_frame _ _).changes
  exact .ite ((changes_fc s _).trans (testLaunch_frame _).changes) ((changes_fc s _).trans (testSettle_frame _).changes)

theorem changes_takeHot (b : Bool) (s : State) : ChangesOnly [.ct, .fc, .wlc, .chan] s (takeHot b s) :=
  .ite ((changes_fc s _).trans ((returnDemand_frame _).trans (reportQueue_frame _ _)).changes) (changes_fc s _)

theorem changes_jogIn {d : Vec3} {s u : State} (h : jogIn d s = some u) : ChangesOnly [.ct, .fc, .wlc, .chan] s u := by
  unfold jogIn at h
  split at h
  · cases h
    exact .ite (changes_fc s _) ((changes_fc s _).trans (setMode_frame _ _).changes)
  · cases h
    exact changes_fc s _
  · cases h
    exact ((closeMode_frame s).changes.trans (changes_fc _ _)).trans (setMode_frame _ _).changes
  all_goals cases h

theorem jogRequest_changes (d : Vec3) (s : State) : ChangesOnly [.ct, .fc, .wlc, .chan] s (jogRequest d s).state := by
  unfold jogRequest
  refine .orRefuse ?_
  split
  · exact .refl s
  · next h => exact (changes_jogIn h).trans (reportQueue_frame _ _).changes

theorem holdIn_frame {s u : State} (h : holdIn s = some u) : FlightFrame s u := by
  unfold holdIn at h
  split at h
  · cases h
    exact .ite ((clearLatch_frame s).trans (startTest_frame _)) (clearLatch_frame s)
  · cases h
    exact (clearLatch_frame s).trans (enterHold_frame _ _)
  · cases h
    exact (closeMode_frame s).trans (enterHold_frame _ _)
  · cases h
  · cases h
    exact ((closeMode_frame s).trans (clearLatch_frame _)).trans (enterHold_frame _ _)
  all_goals cases h

theorem holdRequest_changes (s : State) : ChangesOnly [.ct, .fc, .wlc, .chan] s (holdRequest s).state := by
  unfold holdRequest
  refine .orRefuse ?_
  split
  · exact .refl s
  · next h => exact ((holdIn_frame h).trans (reportQueue_frame _ _)).changes

theorem changes_carryOutResume (q : Vec3) (s : State) : ChangesOnly [.zt, .ct, .fc, .wlc, .chan] s (carryOutResume q s) := by
  have cleared : ChangesOnly [.zt, .ct, .fc, .wlc, .chan] s
      (clearOverflow { s with fc := { s.fc with p := some q, v := .zero, causes := [], launchTimer := none, settleTimer := none } }) :=
    (changes_fc s _).trans (changes_clearOverflow _).mono
  exact .ite (cleared.trans (enterParked_frame _).changes.mono) (cleared.trans (enterLaunching_frame _).changes.mono)

theorem resumeRequest_changes (s : State) : ChangesOnly [.zt, .ct, .fc, .wlc, .chan] s (resumeRequest s).state := by
  unfold resumeRequest
  split
  · exact .refl s
  · exact (changes_carryOutResume _ s).trans (reportQueue_frame _ _).changes.mono

theorem changes_recomputeCues (s : State) : ChangesOnly [.ct, .chan] s (recomputeCues s) :=
  (changes_ct s _).trans (changes_notifyAll _ _).mono

theorem onCue_changes {rs : List Region} {s : State} {handle gen : Byte} {act : CueHandle → Cue → Answer}
    (h : ∀ h c, ChangesOnly rs s (act h c).state) : ChangesOnly rs s (onCue handle gen s act).state := by
  unfold onCue
  split
  · split
    · exact .refl s
    · split
      · exact h _ _
      · exact .refl s
  · exact .refl s

theorem carryOutStore_changes (p : Port) (f : StoreFields) (h : CueHandle) (s : State) :
    ChangesOnly [.ct, .chan] s (carryOutStore p f h s).state :=
  (changes_ct s _).trans (changes_notify _ _).mono

theorem cueStore_changes (p : Port) (handle : Byte) (f : StoreFields) (s : State) :
    ChangesOnly [.ct, .chan] s (cueStore p handle f s).state := by
  unfold cueStore
  split
  · exact .refl s
  · refine .orRefuse (.orRefuse ?_)
    split
    · exact .orRefuse (carryOutStore_changes p f _ s)
    · split
      · exact carryOutStore_changes p f _ s
      · exact .refl s

theorem changes_cancelRun (s : State) : ChangesOnly [.ct, .fc, .wlc, .chan] s (cancelRun s) := (enterHold_frame _ s).changes

theorem cueDrop_changes (h : CueHandle) (s : State) : ChangesOnly [.ct, .fc, .wlc, .chan] s (cueDrop h s).state := by
  unfold cueDrop
  refine .trans ?_ (reportQueue_frame _ _).changes
  generalize hs1 : notify _ _ = s1
  have h1 : ChangesOnly [.ct, .fc, .wlc, .chan] s s1 := hs1 ▸ (changes_ct s _).trans (changes_notify _ _).mono
  generalize hs2 : ite (s.ct.runs h = true) _ _ = s2
  have h2 : ChangesOnly [.ct, .fc, .wlc, .chan] s s2 := hs2 ▸ .ite (h1.trans (changes_cancelRun s1)) h1
  exact .ite (h2.trans (startTest_frame s2).changes) h2

theorem carryOutAdd_changes (h : CueHandle) (k : StartKind) (s : State) :
    ChangesOnly [.ct, .fc, .wlc, .chan] s (carryOutAdd h k s).state :=
  .trans (.ite ((changes_ct s _).trans (startTest_frame _).changes) (changes_ct s _)) (reportQueue_frame _ _).changes

theorem queueAdd_changes (p : Port) (handle gen kind : Byte) (s : State) :
    ChangesOnly [.ct, .fc, .wlc, .chan] s (queueAdd p handle gen kind s).state := by
  unfold queueAdd
  refine .orRefuse ?_
  split
  · exact .refl s
  · exact onCue_changes fun h _ => .orRefuse (carryOutAdd_changes h _ s)

theorem takeHead_changes (e : QueueEntry) (s : State) : ChangesOnly [.ct, .fc, .wlc, .chan] s (takeHead e s).state :=
  ((changes_ct s _).trans (runStart_frame _ _).changes).trans (changes_notify _ _).mono

theorem queueTake_changes (p : Port) (s : State) : ChangesOnly [.ct, .fc, .wlc, .chan] s (queueTake p s).state := by
  unfold queueTake
  refine .orRefuse ?_
  split
  · exact .refl s
  · exact .orRefuse (takeHead_changes _ s)

theorem skipHead_changes (e : QueueEntry) (rest : List QueueEntry) (s : State) :
    ChangesOnly [.ct, .fc, .wlc, .chan] s (skipHead e rest s).state := by
  refine .trans (.trans ?_ (startTest_frame _).changes) (reportQueue_frame _ _).changes
  exact .ite ((changes_ct s _).trans (changes_cancelRun _)) (changes_ct s _)

theorem queueClear_changes (s : State) : ChangesOnly [.ct, .fc, .wlc, .chan] s (queueClear s).state := by
  have ended : ∀ b : Bool, ChangesOnly [.ct, .fc, .wlc, .chan] s
      (if b then cancelRun { s with ct := { s.ct with queue := [], halted := false, dwell := none } }
        else { s with ct := { s.ct with queue := [], halted := false, dwell := none } }) := fun b =>
    .ite ((changes_ct s _).trans (changes_cancelRun _)) (changes_ct s _)
  exact .ite (ended _) ((ended _).trans (changes_notify _ _).mono)

/-! ## Winch links and loads -/

theorem changes_setLink (w : Winch) (l : Link) (s : State) : ChangesOnly [.wlc] s (setLink w l s) := changes_wlc s _

theorem changes_endQuery (w : Winch) (q : QuerySlot) (r : Result) (c : List Byte) (s : State) :
    ChangesOnly [.wlc, .cif] s (endQuery w q r c s) := (changes_wlc s _).trans (changes_respond _ _ _ _).mono

theorem changes_timeoutQuery (w : Winch) (s : State) : ChangesOnly [.wlc, .cif] s (timeoutQuery w s) := by
  unfold timeoutQuery
  split
  · exact .ite (changes_endQuery _ _ _ _ _) (.refl s)
  · exact .refl s

theorem changes_linkConditions (w : Winch) (left entered : LinkState) (s : State) :
    ChangesOnly [.chan] s (linkConditions w left entered s) := by
  unfold linkConditions
  refine .trans (t := match entered with
    | .degraded => tellSu .wlc (.raise (condLinkDegraded w)) s
    | .lost => tellSu .wlc (.raise (condLinkLost w)) s
    | .down | .up => s) ?_ ?_
  · cases entered <;> first | exact .refl s | exact changes_tellSu _ _ _
  · cases left <;> first | exact .refl _ | exact changes_tellSu _ _ _

theorem changes_linkToFc (w : Winch) (left entered : LinkState) (s : State) :
    ChangesOnly [.chan] s (linkToFc w left entered s) := by
  have told := changes_tellFc .wlc (.linkState w entered) s
  have raised : ChangesOnly [.chan] s
      (if entered = .lost then tellFc .wlc (.raise (.linkLost w)) (tellFc .wlc (.linkState w entered) s)
        else tellFc .wlc (.linkState w entered) s) := .ite (told.trans (changes_tellFc _ _ _)) told
  exact .ite (raised.trans (changes_tellFc _ _ _)) raised

theorem changes_failQueryIfLost (w : Winch) (entered : LinkState) (s : State) :
    ChangesOnly [.wlc, .cif] s (failQueryIfLost w entered s) := by
  unfold failQueryIfLost
  split
  · exact .ite (changes_endQuery _ _ _ _ _) (.refl s)
  · exact .refl s

theorem changes_judgeWindow (w : Winch) (s : State) : ChangesOnly [.wlc, .cif, .chan] s (judgeWindow w s) := by
  unfold judgeWindow
  refine .ite (changes_wlc s _) ?_
  exact (((changes_wlc s _).trans (changes_failQueryIfLost _ _ _).mono).trans (changes_linkConditions _ _ _ _).mono).trans
    (changes_linkToFc _ _ _ _).mono

theorem changes_settleLink (w : Winch) (s : State) : ChangesOnly [.wlc, .cif, .chan] s (settleLink w s) := by
  have timed : ChangesOnly [.wlc, .cif, .chan] s (timeoutQuery w s) := (changes_timeoutQuery w s).mono
  exact .ite (timed.trans (changes_judgeWindow _ _)) timed

theorem changes_missOpen (w : Winch) (s : State) : ChangesOnly [.wlc, .cif, .chan] s (missOpen w s) := by
  have settled := changes_settleLink w s
  exact .ite ((settled.trans (changes_wlc _ _)).trans (changes_settleLink _ _)) settled

theorem changes_completeRound (s : State) : ChangesOnly [.lm] s (completeRound s) := changes_lm s _

theorem changes_startRound (s : State) : ChangesOnly [.wlc, .cif, .chan, .lm] s (startRound s) := by
  have missed : ChangesOnly [.wlc, .cif, .chan, .lm] s ((handles 4).foldl (fun s w => missOpen w s) s) :=
    .foldl (fun s w => (changes_missOpen w s).mono) _ s
  refine .trans (.ite (missed.trans (changes_completeRound _).mono) missed) (changes_wlc _ _)

theorem changes_badCheck (w : Winch) (s : State) : ChangesOnly [.wlc] s (badCheck w s) := changes_wlc s _

theorem changes_staleSeq (w : Winch) (s : State) : ChangesOnly [.wlc] s (staleSeq w s) := changes_wlc s _

theorem changes_setLm (w : Winch) (m : LmWinch) (s : State) : ChangesOnly [.lm] s (setLm w m s) := changes_lm s _

theorem changes_lmCondition (n : Fin 43) (b : Bool) (s : State) : ChangesOnly [.chan] s (lmCondition n b s) := changes_tellSu _ _ s

theorem changes_lmCause (c : Cause) (b : Bool) (s : State) : ChangesOnly [.chan] s (lmCause c b s) := changes_tellFc _ _ s

theorem changes_updateHigh (s : State) : ChangesOnly [.lm, .chan] s (updateHigh s) :=
  .ite (.refl s) ((changes_lm s _).trans (changes_tellFc _ _ _).mono)

theorem changes_updateWarm (s : State) : ChangesOnly [.lm, .chan] s (updateWarm s) :=
  .ite (.refl s) ((changes_lm s _).trans (changes_tellFc _ _ _).mono)

theorem changes_updateHot (s : State) : ChangesOnly [.lm, .chan] s (updateHot s) :=
  .ite (.refl s) ((changes_lm s _).trans (changes_tellFc _ _ _).mono)

/-- A winch's comparator moves, and its condition is handed to SU. -/
theorem changes_setCondition (n : Fin 43) (b : Bool) (w : Winch) (m : LmWinch) (s : State) :
    ChangesOnly [.lm, .chan] s (lmCondition n b (setLm w m s)) := (changes_lm s _).trans (changes_lmCondition _ _ _).mono

theorem changes_applyOverload (w : Winch) (m : LoadSet) (s : State) : ChangesOnly [.lm, .chan] s (applyOverload w m s) :=
  .ite (.refl s) ((changes_setCondition _ _ _ _ s).trans (changes_lmCause _ _ _).mono)

theorem changes_applyTensionHigh (w : Winch) (m : LoadSet) (s : State) : ChangesOnly [.lm, .chan] s (applyTensionHigh w m s) :=
  .ite (.refl s) ((changes_setCondition _ _ _ _ s).trans (changes_updateHigh _))

theorem changes_applyMotorWarm (w : Winch) (m : LoadSet) (s : State) : ChangesOnly [.lm, .chan] s (applyMotorWarm w m s) :=
  .ite (.refl s) ((changes_setCondition _ _ _ _ s).trans (changes_updateWarm _))

theorem changes_applyMotorHot (w : Winch) (m : LoadSet) (s : State) : ChangesOnly [.lm, .chan] s (applyMotorHot w m s) :=
  .ite (.refl s) ((changes_setCondition _ _ _ _ s).trans (changes_updateHot _))

theorem changes_applySlack (w : Winch) (m : LoadSet) (s : State) : ChangesOnly [.lm, .chan] s (applySlack w m s) := by
  unfold applySlack
  dsimp only
  split
  · exact .ite (changes_lm s _) (.refl s)
  · exact .ite (.refl s) (changes_lm s _)
  · exact .ite ((changes_setCondition _ _ _ _ s).trans (changes_lmCause _ _ _).mono) (.refl s)

theorem changes_applyFollow (w : Winch) (m : LoadSet) (s : State) : ChangesOnly [.lm, .chan] s (applyFollow w m s) := by
  unfold applyFollow
  dsimp only
  split
  · exact .ite (changes_lm s _) (.refl s)
  · exact .ite (.refl s) (changes_lm s _)
  · exact .ite (.refl s) ((changes_setCondition _ _ _ _ s).trans (changes_lmCause _ _ _).mono)

theorem changes_applyTension (w : Winch) (s : State) : ChangesOnly [.lm, .chan] s (applyTension w s) := by
  unfold applyTension
  split
  · exact ((changes_applyOverload w _ s).trans (changes_applyTensionHigh w _ _)).trans (changes_applySlack w _ _)
  · exact .refl s

theorem changes_applyTemperature (w : Winch) (s : State) : ChangesOnly [.lm, .chan] s (applyTemperature w s) := by
  unfold applyTemperature
  split
  · exact (changes_applyMotorWarm w _ s).trans (changes_applyMotorHot w _ _)
  · exact .refl s

theorem changes_applyFollowCheck (w : Winch) (s : State) : ChangesOnly [.lm, .chan] s (applyFollowCheck w s) := by
  unfold applyFollowCheck
  split
  · exact changes_applyFollow w _ s
  · exact .refl s

theorem changes_recomputeTarget (s : State) : ChangesOnly [.lm] s (recomputeTarget s) := changes_lm s _

theorem changes_takeSet (w : Winch) (m : Measurement) (answered : Int × Command) (s : State) :
    ChangesOnly [.lm, .chan] s (takeSet w m answered s) :=
  ((((changes_lm s _).trans (changes_applyTension w _)).trans (changes_applyTemperature w _)).trans (changes_applyFollowCheck w _)).trans
    (changes_recomputeTarget _).mono

theorem changes_winchWritten (w : Winch) (s : State) : ChangesOnly [.lm, .chan] s (winchWritten w s) :=
  (((changes_lm s _).trans (changes_applyTension w _)).trans (changes_applyTemperature w _)).trans (changes_recomputeTarget _).mono

theorem changes_followingWritten (s : State) : ChangesOnly [.lm, .chan] s (followingWritten s) :=
  .foldl (fun s w => changes_applyFollowCheck w s) _ s

theorem changes_takeMeasurements (w : Winch) (m : Measurement) (answered : Int × Command) (s : State) :
    ChangesOnly [.wlc, .fc, .lm, .chan] s (takeMeasurements w m answered s) :=
  ((changes_wlc s _).trans (changes_fc _ _)).trans (changes_takeSet w m answered _).mono

theorem changes_applyDriveFault (w : Winch) (c : Completion) (d : DriveStatus) (s : State) :
    ChangesOnly [.wlc, .chan] s (applyDriveFault w c d s) := by
  have told (l : Link) (m : SuMsg) (k : FcMsg) : ChangesOnly [.wlc, .chan] s (tellFc .wlc k (tellSu .wlc m (setLink w l s))) :=
    ((changes_wlc s _).trans (changes_tellSu _ _ _).mono).trans (changes_tellFc _ _ _).mono
  exact .ite (told _ _ _) (.ite (told _ _ _) (.refl s))

theorem changes_applyAnswer (w : Winch) (a : Option QueryAnswer) (s : State) :
    ChangesOnly [.wlc, .cif] s (applyAnswer w a s) := by
  unfold applyAnswer
  split
  · exact .ite (changes_endQuery _ _ _ _ _) (.refl s)
  · exact .refl s

theorem changes_takeStatus (w : Winch) (f : StateFields) (s : State) : ChangesOnly [.wlc, .cif, .chan] s (takeStatus w f s) :=
  (((changes_wlc s _).trans (changes_tellFc _ _ _).mono).trans (changes_applyDriveFault _ _ _ _).mono).trans
    (changes_applyAnswer _ _ _).mono

theorem changes_closeByFrame (w : Winch) (t : Target) (f : StateFields) (s : State) :
    ChangesOnly [.wlc, .cif, .fc, .lm, .chan] s (closeByFrame w t f s) := by
  unfold closeByFrame
  extract_lets parts l0 src l s1 s2 s3
  have h1 : ChangesOnly [.wlc, .cif, .fc, .lm, .chan] s s1 := changes_wlc s _
  have h2 : ChangesOnly [.wlc, .cif, .fc, .lm, .chan] s s2 := .ite (h1.trans (changes_takeMeasurements _ _ _ _).mono) h1
  have h3 : ChangesOnly [.wlc, .cif, .fc, .lm, .chan] s s3 := .ite (h2.trans (changes_takeStatus _ _ _).mono) h2
  exact .ite h3 (h3.trans (changes_completeRound _).mono)

theorem changes_judgeFrame (w : Winch) (f : StateFields) (s : State) :
    ChangesOnly [.wlc, .cif, .fc, .lm, .chan] s (judgeFrame w f s) := by
  unfold judgeFrame
  split
  · exact .ite (changes_closeByFrame w _ f s) (changes_staleSeq w s).mono
  · exact (changes_staleSeq w s).mono

theorem changes_frameEnds (w : Winch) (f : List Byte) (s : State) :
    ChangesOnly [.wlc, .cif, .fc, .lm, .chan] s (frameEnds w f s) := by
  have settled : ChangesOnly [.wlc, .cif, .fc, .lm, .chan] s (settleLink w (setLink w { s.wlc[w] with rx := [] } s)) :=
    (changes_wlc s _).trans (changes_settleLink w _).mono
  unfold frameEnds
  dsimp only
  split
  · exact .ite (settled.trans (changes_badCheck w _).mono) (settled.trans (changes_judgeFrame w _ _))
  · exact settled.trans (changes_badCheck w _).mono

theorem changes_linkByte (w : Winch) (b : Byte) (s : State) : ChangesOnly [.wlc, .cif, .fc, .lm, .chan] s (linkByte w b s) := by
  unfold linkByte
  refine .ite (.ite (changes_wlc s _) (.refl s)) ?_
  dsimp only
  split
  · exact .ite (changes_wlc s _) (changes_frameEnds w _ s)
  · exact changes_wlc s _

theorem countersRequest_changes (winch clear : Byte) (s : State) : ChangesOnly [.wlc] s (countersRequest winch clear s).state := by
  unfold countersRequest
  split
  · exact .ite (changes_wlc s _) (.refl s)
  · exact .refl s

theorem changes_driveQueryRequest (p : Port) (winch code : Byte) (args : List Byte) (s : State) :
    ChangesOnly [.wlc, .cif, .chan] s (driveQueryRequest p winch code args s) := by
  have settled : ChangesOnly [.wlc, .cif, .chan] s (match winchOf winch with | some w => settleLink w s | none => s) := by
    split
    · exact changes_settleLink _ s
    · exact .refl s
  unfold driveQueryRequest
  dsimp only
  split
  · exact settled.trans (changes_respond _ _ _ _).mono
  · exact (settled.trans (changes_wlc _ _)).trans (changes_withPort _ _ _).mono

theorem winchRead_changes (winch : Byte) (s : State) : ChangesOnly [.wlc, .cif, .chan] s (winchRead winch s).state := by
  unfold winchRead
  split
  · exact .refl s
  · exact changes_settleLink _ s

/-! ## The servo step -/

theorem changes_settleMaxSpeed (s : State) : ChangesOnly [.fc] s (settleMaxSpeed s) := .ite (changes_fc s _) (.refl s)

theorem setLowPass_changes (b : Bool) (s : State) : ChangesOnly [.fc, .chan] s (setLowPass b s) :=
  .ite (.refl s) ((changes_fc s _).trans (changes_tellSu _ _ _).mono)

theorem changes_updateLowPass (a : Int) (s : State) : ChangesOnly [.fc, .chan] s (updateLowPass a s) := by
  unfold updateLowPass
  split <;> exact setLowPass_changes _ s

theorem updatePinned_frame (m : Motion) (s : State) : FlightFrame s (updatePinned m s) :=
  .ite (setPinned_frame true s) (.ite (setPinned_frame false s) (.refl s))

theorem changes_sendAllowance (a : Int) (s : State) : ChangesOnly [.fc, .chan] s (sendAllowance a s) :=
  .ite (.refl s) ((changes_chan s _).trans (changes_fc { s with chan := { s.chan with fcToCt := s.chan.fcToCt ++ [a] } } _))

theorem changes_handOnStep (m : Motion) (a : Int) (s : State) :
    ChangesOnly [.ct, .fc, .wlc, .cif, .chan, .lm] s (handOnStep m a s) := by
  have rounds : ChangesOnly [.ct, .fc, .wlc, .cif, .chan, .lm] s (startRound (handTargets s)) :=
    (handTargets_frame s).changes.mono.trans (changes_startRound _).mono
  exact (((rounds.trans (changes_chan _ _)).trans (changes_sendAllowance a _).mono).trans (updatePinned_frame m _).changes.mono).trans
    (changes_updateLowPass a _).mono

theorem changes_servoStep (s : State) : ChangesOnly [.ct, .fc, .wlc, .cif, .chan, .lm] s (servoStep s) := by
  unfold servoStep
  refine .trans ?_ (changes_settleMaxSpeed _).mono
  refine .trans ?_ (reportQueue_frame _ _).changes.mono
  refine .trans ?_ (stage8_frame _ _).changes.mono
  exact ((changes_fc s _).trans (changes_fc _ _)).trans (changes_handOnStep _ _ _)

/-! ## The store, SU and the start -/

theorem changes_setRecord (r : Record) (s : State) : ChangesOnly [.cs] s (setRecord r s) := changes_cs s _

theorem changes_reevaluate (s : State) : ChangesOnly [.zt, .chan] s (reevaluate s) := .ite (changes_evaluateReport s) (.refl s)

theorem changes_writeGeometry (g : GeometryCfg) (s : State) : ChangesOnly [.cs, .zt, .ct, .chan] s (writeGeometry g s) := by
  refine .ite ?_ (changes_cs s _)
  exact ((changes_cs s _).trans (changes_reevaluate _).mono).trans (changes_recomputeCues _).mono

theorem changes_writeMotion (c : MotionCfg) (s : State) : ChangesOnly [.cs, .fc] s (writeMotion c s) :=
  .ite (changes_cs s _) ((changes_cs s _).trans (changes_settleMaxSpeed _).mono)

theorem changes_writeWinch (w : Winch) (c : WinchCfg) (s : State) :
    ChangesOnly [.cs, .wlc, .cif, .lm, .chan] s (writeWinch w c s) :=
  ((changes_settleLink w s).mono.trans (changes_cs _ _)).trans (changes_winchWritten w _).mono

/-- The regions that a CONFIG WRITE can change before its response. -/
def writeRegions : List Region := [.cs, .zt, .ct, .fc, .wlc, .cif, .lm, .chan]

theorem changes_groupWrite {group : Group} {bs : List Byte} {s u : State} (h : groupWrite group bs s = some u) :
    ChangesOnly writeRegions s u := by
  have recorded (r : Record) : ChangesOnly writeRegions s (setRecord r s) := (changes_setRecord r s).mono (by simp [writeRegions])
  cases group with
  | geometry =>
    obtain ⟨g, -, rfl⟩ := Option.map_eq_some_iff.mp h
    exact (changes_writeGeometry g s).mono (by simp [writeRegions])
  | motion =>
    obtain ⟨c, -, rfl⟩ := Option.map_eq_some_iff.mp h
    exact (changes_writeMotion c s).mono (by simp [writeRegions])
  | following =>
    obtain ⟨c, -, rfl⟩ := Option.map_eq_some_iff.mp h
    exact (recorded _).trans ((changes_followingWritten _).mono (by simp [writeRegions]))
  | winch =>
    cases bs with
    | nil => cases h
    | cons n bs =>
      obtain ⟨w, -, h⟩ := Option.bind_eq_some_iff.mp h
      obtain ⟨c, -, rfl⟩ := Option.map_eq_some_iff.mp h
      exact (changes_writeWinch w c s).mono (by simp [writeRegions])
  | sag =>
    obtain ⟨c, -, rfl⟩ := Option.map_eq_some_iff.mp h
    exact (recorded _).trans ((changes_recomputeTarget _).mono (by simp [writeRegions]))
  | matrix =>
    obtain ⟨m, -, rfl⟩ := Option.map_eq_some_iff.mp h
    exact recorded _
  | ports =>
    obtain ⟨b, -, rfl⟩ := Option.map_eq_some_iff.mp h
    exact recorded _
  | stored => cases h

theorem configWrite_changes (group : Byte) (bs : List Byte) (s : State) : ChangesOnly writeRegions s (configWrite group bs s).state := by
  unfold configWrite
  refine .orRefuse ?_
  split
  · exact .refl s
  · refine .orRefuse ?_
    split
    · next h => exact changes_groupWrite h
    · exact .refl s

theorem configSave_changes (s : State) : ChangesOnly [.cs] s (configSave s).state :=
  .orRefuse (.orRefuse (.orRefuse (changes_cs s _)))

theorem configRead_changes (group : Byte) (winch : Option Byte) (s : State) : ChangesOnly [] s (configRead group winch s).state := by
  unfold configRead
  split <;> exact .refl s

theorem changes_endSave (i : Image) (s : State) : ChangesOnly [.cs, .chan] s (endSave i s) :=
  .ite ((changes_cs s _).trans (changes_tellSu _ _ _).mono) (changes_cs s _)

theorem restartRequest_changes (s : State) : ChangesOnly [.part] s (restartRequest s).state :=
  .orRefuse (.orRefuse (changes_part s _))

theorem changes_raiseCondition (n : Fin 43) (s : State) : ChangesOnly [.su, .chan] s (raiseCondition n s) :=
  .ite (.refl s) ((changes_su s _).trans (changes_notify _ _).mono)

theorem changes_clearCondition (n : Fin 43) (s : State) : ChangesOnly [.su, .chan] s (clearCondition n s) :=
  .ite ((changes_su s _).trans (changes_notify _ _).mono) (.refl s)

theorem changes_setAirborne (b : Bool) (s : State) : ChangesOnly [.su] s (setAirborne b s) := .ite (.refl s) (changes_su s _)

theorem conditionsRead_changes (p : Port) (clear : Byte) (s : State) : ChangesOnly [.cif] s (conditionsRead p clear s).state := by
  unfold conditionsRead
  split
  · exact .refl s
  · exact .orRefuse (.ite (changes_cif s _) (.refl s))

theorem acknowledge_changes (n : Byte) (s : State) : ChangesOnly [.su] s (acknowledge n s).state := by
  unfold acknowledge
  split
  · exact .refl s
  · exact changes_su s _

end Sys2Proof.Machine
end

section
/-! PROOF. Which regions each command can change, and the settling of O1, O2 and O3. -/

namespace Sys2Proof.Machine

set_option Elab.async false

/-! ## The regions of a command -/

/-- The regions that a command can change: the blocks its event reaches, part time where it is a timer's expiry, and the ports where it
answers a request. -/
def regionsOf : Instr → List Region
  | .zonePut _ | .zoneShift _ | .zoneRenew _ | .zoneSuspend _ | .zoneResume _ | .zoneDrop _ | .groupSuspend _ | .groupResume _
  | .clockFreeze _ | .clockThaw _ => [.cif, .zt, .chan]
  | .zoneRead _ | .zoneList _ | .clockRead _ | .cueRead _ | .cueList _ | .queueRead _ | .flightRead _ | .conditionsRead _
  | .configRead _ | .requestArrival _ _ | .badFrame _ _ | .transmitRoomFreed _ _ => [.cif]
  | .cueStore _ => [.cif, .ct, .chan]
  | .cueDrop _ | .queueAdd _ | .queueTake _ | .queueSkip _ | .queueClear _ | .launch _ | .jog _ | .hold _ | .returnDock _ | .stop _ =>
    [.cif, .ct, .fc, .wlc, .chan]
  | .resume _ => [.cif, .zt, .ct, .fc, .wlc, .chan]
  | .winchRead _ | .driveQuery _ | .windowEnd _ | .queryTimeout _ => [.cif, .wlc, .chan]
  | .counters _ => [.cif, .wlc]
  | .acknowledge _ => [.cif, .su]
  | .configWrite _ => .cif :: writeRegions
  | .configSave _ => [.cif, .cs]
  | .restart _ => [.cif, .part]
  | .gapTimerExpiry _ => [.part, .cif]
  | .noticeHanded => [.cif, .chan]
  | .powerOn | .resetReleased | .restartResponseSent => [.part, .cif, .zt, .ct, .fc, .wlc, .lm, .su, .cs, .chan]
  | .resetAsserted | .powerLoss => [.part]
  | .estopAsserted | .estopReleased => [.part, .ct, .fc, .wlc, .su, .chan]
  | .servoStep => [.part, .ct, .fc, .wlc, .cif, .chan, .lm]
  | .carry => [.part, .zt, .chan]
  | .dwellTimerExpiry | .launchTimerExpiry | .settleTimerExpiry => [.part, .ct, .fc, .wlc, .chan]
  | .deadmanExpiry => [.part, .fc]
  | .slackTimerExpiry _ | .followTimerExpiry _ => [.part, .lm, .chan]
  | .periodBoundary => [.part, .su]
  | .saveEnd => [.part, .cs, .chan]
  | .stateFrame _ _ => [.wlc, .cif, .fc, .lm, .chan]
  | .stateByteGap _ => [.wlc]
  | .positionReport => [.zt, .chan]
  | .changeReportCt | .allowanceReport => [.ct, .chan]
  | .changeReportFc | .zoneSummary | .stopCauseRaise _ | .driveStatus | .hotFlag => [.chan, .ct, .fc, .wlc]
  | .stopCauseClear _ | .linkState | .highFlag | .warmFlag => [.chan, .fc]
  | .conditionRaiseAtSu _ | .conditionClearAtSu _ | .airborneIndication => [.chan, .su]

/-! ## Requests -/

/-- The answer of a request's owner (R195). DRIVE QUERY has no answer of its own at once (R168): `served` gives what it does. -/
def ownerAnswer (p : Port) (s : State) : Request → Answer
  | .zonePut cb box guard hyst cap group life =>
    (classOf cb).elim (refuse .badField s) (fun c => zonePut p ⟨c, box, guard, hyst, cap, group, life⟩ s)
  | .zoneShift handle gen box guard hyst cap =>
    onZoneGranted p .put handle gen s (fun h z => zoneShift ⟨box, guard, hyst, cap⟩ h z s)
  | .zoneRenew handle gen life => onZoneGranted p .put handle gen s (fun h z => zoneRenew life h z s)
  | .zoneSuspend handle gen => onZoneGranted p .suspend handle gen s (fun h z => zoneSuspend h z s)
  | .zoneResume handle gen => onZoneGranted p .suspend handle gen s (fun h z => zoneResume h z s)
  | .zoneDrop handle gen =>
    onZoneGranted p .drop handle gen s (fun h z => ⟨.ok, [], carryOut (s.zt.work.change h z.cls .drop none) s⟩)
  | .zoneRead handle gen => onZone handle gen s (fun h z => ⟨.ok, zoneRecordBytes s.zt h z, s⟩)
  | .zoneList states classes => zoneList states classes s
  | .groupSuspend group => groupSuspend p group s
  | .groupResume group => groupResume p group s
  | .clockFreeze => okWithClock { s with zt := { s.zt with frozen := true } }
  | .clockThaw => okWithClock (thaw s)
  | .clockRead => okWithClock s
  | .cueStore handle label target cruise tolerance dwell => cueStore p handle ⟨label, target, cruise, tolerance, dwell⟩ s
  | .cueDrop handle gen =>
    onCue handle gen s (fun h c =>
      if rowGrants s.cs.record.matrix.cue p (decide (c.owner = p)) then cueDrop h s else refuse .denied s)
  | .cueRead handle gen => onCue handle gen s (fun h c => ⟨.ok, cueRecordBytes s.ct h c, s⟩)
  | .cueList states => cueList states s
  | .queueAdd handle gen kind => queueAdd p handle gen kind s
  | .queueTake => queueTake p s
  | .queueSkip =>
    if !queueGrants s.cs.record.matrix.queueSkip p then refuse .denied s
    else match s.ct.queue with
      | [] => refuse .empty s
      | e :: rest => skipHead e rest s
  | .queueClear => if !queueGrants s.cs.record.matrix.queueClear p then refuse .denied s else queueClear s
  | .queueRead => ⟨.ok, queueBytes s.part.partTime s.ct, s⟩
  | .launch => (launchCheck s).elim ⟨.ok, [], reportQueue s.ct (enterLaunching s)⟩ (fun r => refuse r s)
  | .jog d => jogRequest d s
  | .hold => holdRequest s
  | .returnDock => ⟨.ok, modeByte (returnDemand s), reportQueue s.ct (returnDemand s)⟩
  | .stop => stopRequest s
  | .resume => resumeRequest s
  | .flightRead => ⟨.ok, flightBytes s, s⟩
  | .winchRead winch => winchRead winch s
  | .driveQuery _ _ _ => refuse .badField s
  | .counters winch clear => countersRequest winch clear s
  | .conditionsRead clear => conditionsRead p clear s
  | .acknowledge number => acknowledge number s
  | .configRead group winch => configRead group winch s
  | .configWrite group bs => configWrite group bs s
  | .configSave => configSave s
  | .restart => restartRequest s

/-- The state after a request's owner has taken it: the owner's answer on the port, or what DRIVE QUERY does (R168, R195). -/
def served (p : Port) (s : State) : Request → State
  | .driveQuery winch code args => driveQueryRequest p winch code args s
  | r => respond p (ownerAnswer p s r).result (ownerAnswer p s r).content (ownerAnswer p s r).state

/-- The command of a request that a port has handed leaves the state in which its owner has served it. -/
theorem exec_command_asked {r : Request} {p : Port} {s : State} (h : Asked s p r) :
    exec (r.command p) s = .next (served p s r) := by
  cases r with
  | zonePut cb =>
    cases hc : classOf cb with
    | none => simpa [Request.command, Refuses, Answers, served, ownerAnswer, hc, refuse] using asked_zonePut_none h hc
    | some c => simpa [Request.command, Gives, Answers, served, ownerAnswer, hc] using asked_zonePut_class h hc
  | launch =>
    cases hc : launchCheck s with
    | none => simpa [Request.command, Gives, Answers, served, ownerAnswer, hc] using asked_launch_passed h hc
    | some r => simpa [Request.command, Refuses, Answers, served, ownerAnswer, hc, refuse] using asked_launch_refused h hc
  | zoneShift => exact asked_zoneShift h
  | zoneRenew => exact asked_zoneRenew h
  | zoneSuspend => exact asked_zoneSuspend h
  | zoneResume => exact asked_zoneResume h
  | zoneDrop => exact asked_zoneDrop h
  | zoneRead => exact asked_zoneRead h
  | zoneList => exact asked_zoneList h
  | groupSuspend => exact asked_groupSuspend h
  | groupResume => exact asked_groupResume h
  | clockFreeze => exact asked_clockFreeze h
  | clockThaw => exact asked_clockThaw h
  | clockRead => exact asked_clockRead h
  | cueStore => exact asked_cueStore h
  | cueDrop => exact asked_cueDrop h
  | cueRead => exact asked_cueRead h
  | cueList => exact asked_cueList h
  | queueAdd => exact asked_queueAdd h
  | queueTake => exact asked_queueTake h
  | queueSkip => exact asked_queueSkip h
  | queueClear => exact asked_queueClear h
  | queueRead => exact asked_queueRead h
  | jog => exact asked_jog h
  | hold => exact asked_hold h
  | returnDock => exact asked_returnDock h
  | stop => exact asked_stop h
  | resume => exact asked_resume h
  | flightRead => exact asked_flightRead h
  | winchRead => exact asked_winchRead h
  | driveQuery => exact asked_driveQuery h
  | counters => exact asked_counters h
  | conditionsRead => exact asked_conditionsRead h
  | acknowledge => exact asked_acknowledge h
  | configRead => exact asked_configRead h
  | configWrite => exact asked_configWrite h
  | configSave => exact asked_configSave h
  | restart => exact asked_restart h

theorem execDriveQuery_of_none {p : Port} {s : State} (h : NotAsked s p) : execDriveQuery p s = .next s := by
  simp only [NotAsked] at h
  simp only [execDriveQuery, h]

/-- The command of a request changes nothing where the port has none that an owner may take (log 1). -/
theorem exec_command_notAsked (r : Request) {p : Port} {s : State} (h : NotAsked s p) : exec (r.command p) s = .next s := by
  cases r
  case driveQuery => exact execDriveQuery_of_none h
  all_goals
    simp only [Request.command, exec]
    exact request_of_none _ h

theorem request_of_other {p : Port} {s : State} {r : Request} {owner : Request → State → Option Answer} (h : Asked s p r)
    (ho : owner r s = none) : request p owner s = .next s := by
  simp only [Asked] at h
  simp only [request, h, ho]

/-- The command of a request changes nothing where the port has handed one of another kind (log 1). -/
theorem exec_command_other {r r' : Request} {p : Port} {s : State} (h : Asked s p r') (hne : r'.command p ≠ r.command p) :
    exec (r.command p) s = .next s := by
  cases r
  case driveQuery =>
    simp only [Asked] at h
    simp only [Request.command, exec, execDriveQuery, h]
    split
    · next e => cases e; exact absurd rfl hne
    · rfl
  all_goals
    simp only [Request.command, exec]
    refine request_of_other h ?_
    split
    · exact absurd rfl hne
    · rfl

/-- The command of a request changes nothing, or a port has handed a request of its kind and its owner serves it. -/
theorem exec_command_cases (r : Request) (p : Port) (s : State) :
    exec (r.command p) s = .next s ∨
    ∃ r', Asked s p r' ∧ r'.command p = r.command p ∧ exec (r.command p) s = .next (served p s r') := by
  cases h : handedRequest p s with
  | none => exact .inl (exec_command_notAsked r h)
  | some r' =>
    by_cases hc : r'.command p = r.command p
    · exact .inr ⟨r', h, hc, hc ▸ exec_command_asked h⟩
    · exact .inl (exec_command_other h hc)

/-- The regions that a request's owner can change before the response is placed (R195). -/
def ownerRegions : Request → List Region
  | .zonePut _ _ _ _ _ _ _ | .zoneShift _ _ _ _ _ _ | .zoneRenew _ _ _ | .zoneSuspend _ _ | .zoneResume _ _ | .zoneDrop _ _
  | .groupSuspend _ | .groupResume _ | .clockFreeze | .clockThaw => [.zt, .chan]
  | .zoneRead _ _ | .zoneList _ _ | .clockRead | .cueRead _ _ | .cueList _ | .queueRead | .flightRead | .configRead _ _ => []
  | .cueStore _ _ _ _ _ _ => [.ct, .chan]
  | .cueDrop _ _ | .queueAdd _ _ _ | .queueTake | .queueSkip | .queueClear | .launch | .jog _ | .hold | .returnDock | .stop =>
    [.ct, .fc, .wlc, .chan]
  | .resume => [.zt, .ct, .fc, .wlc, .chan]
  | .winchRead _ | .driveQuery _ _ _ => [.wlc, .cif, .chan]
  | .counters _ _ => [.wlc]
  | .conditionsRead _ => [.cif]
  | .acknowledge _ => [.su]
  | .configWrite _ _ => writeRegions
  | .configSave => [.cs]
  | .restart => [.part]

/-- An owner's answer changes the owner's regions. -/
theorem ownerAnswer_changes (p : Port) (s : State) (r : Request) :
    ChangesOnly (ownerRegions r) s (ownerAnswer p s r).state := by
  cases r with
  | zonePut cb =>
    simp only [ownerAnswer]
    cases classOf cb with
    | none => exact .refl s
    | some c => exact (zonePut_changes p _ s)
  | zoneShift => exact (onZoneGranted_changes fun h z => zoneShift_changes _ h z s)
  | zoneRenew => exact (onZoneGranted_changes fun h z => zoneRenew_changes _ h z s)
  | zoneSuspend => exact (onZoneGranted_changes fun h z => zoneSuspend_changes h z s)
  | zoneResume => exact (onZoneGranted_changes fun h z => zoneResume_changes h z s)
  | zoneDrop => exact (onZoneGranted_changes fun h z => changes_carryOut _ s)
  | zoneRead => exact onZone_changes fun h z => .refl s
  | zoneList => exact .orRefuse (.refl s)
  | groupSuspend => exact (groupSuspend_changes p _ s)
  | groupResume => exact (groupResume_changes p _ s)
  | clockFreeze => exact changes_zt s { s.zt with frozen := true } (by simp [ownerRegions])
  | clockThaw => exact (changes_thaw s)
  | clockRead => exact .refl s
  | cueStore => exact (cueStore_changes p _ _ s)
  | cueDrop =>
    refine onCue_changes fun h c => ?_
    split
    · exact cueDrop_changes h s
    · exact .refl s
  | cueRead => exact onCue_changes fun h c => .refl s
  | cueList => exact .orRefuse (.refl s)
  | queueAdd => exact (queueAdd_changes p _ _ _ s)
  | queueTake => exact (queueTake_changes p s)
  | queueSkip =>
    refine .orRefuse ?_
    split
    · exact .refl s
    · exact (skipHead_changes _ _ s)
  | queueClear => exact .orRefuse (queueClear_changes s)
  | queueRead => exact .refl s
  | launch =>
    simp only [ownerAnswer]
    cases launchCheck s with
    | none => exact ((enterLaunching_frame s).trans (reportQueue_frame _ _)).changes
    | some r => exact .refl s
  | jog => exact (jogRequest_changes _ s)
  | hold => exact (holdRequest_changes s)
  | returnDock => exact ((returnDemand_frame s).trans (reportQueue_frame _ _)).changes
  | stop => exact (changes_raiseCause .stop s)
  | resume => exact (resumeRequest_changes s)
  | flightRead => exact .refl s
  | winchRead => exact (winchRead_changes _ s)
  | driveQuery => exact .refl s
  | counters => exact (countersRequest_changes _ _ s)
  | conditionsRead => exact (conditionsRead_changes p _ s)
  | acknowledge => exact (acknowledge_changes _ s)
  | configRead => exact (configRead_changes _ _ s)
  | configWrite => exact (configWrite_changes _ _ s)
  | configSave => exact (configSave_changes s)
  | restart => exact (restartRequest_changes s)

theorem ownerRegions_subset (p : Port) (r : Request) : .cif :: ownerRegions r ⊆ regionsOf (r.command p) := by
  cases r <;> simp [ownerRegions, Request.command, regionsOf, writeRegions]

theorem served_changes (p : Port) (s : State) (r : Request) : ChangesOnly (.cif :: ownerRegions r) s (served p s r) := by
  have answered : ChangesOnly (.cif :: ownerRegions r) s
      (respond p (ownerAnswer p s r).result (ownerAnswer p s r).content (ownerAnswer p s r).state) :=
    (ownerAnswer_changes p s r).mono.trans (changes_cif _ _)
  cases r with
  | driveQuery winch code args => exact (changes_driveQueryRequest p winch code args s).mono (by simp [ownerRegions])
  | _ => exact answered

theorem exec_command_within (r : Request) (p : Port) (s : State) :
    AnswersWithin (regionsOf (r.command p)) s (exec (r.command p) s) := by
  obtain e | ⟨r', -, hc, e⟩ := exec_command_cases r p s
  · rw [e]; exact .refl
  · exact ⟨_, e, (served_changes p s r').mono (hc ▸ ownerRegions_subset p r')⟩

/-! ## Every command -/

theorem AnswersWithin.mono {rs rs' : List Region} {s : State} {o : Outcome} (h : AnswersWithin rs s o)
    (hs : rs ⊆ rs' := by simp [regionsOf]) : AnswersWithin rs' s o := by
  obtain ⟨u, e, hu⟩ := h
  exact ⟨u, e, hu.mono hs⟩

theorem changes_start (s : State) : ChangesOnly [.part, .cif, .zt, .ct, .fc, .wlc, .lm, .su, .cs, .chan] s (start s) := by
  refine ⟨?_, fun r hr => by cases r <;> simp at hr⟩
  unfold start
  split <;> rfl

/-- The commands in which a port's request meets its owner (R195). -/
def isRequest : Instr → Bool
  | .zonePut _ | .zoneShift _ | .zoneRenew _ | .zoneSuspend _ | .zoneResume _ | .zoneDrop _ | .zoneRead _ | .zoneList _
  | .groupSuspend _ | .groupResume _ | .clockFreeze _ | .clockThaw _ | .clockRead _ | .cueStore _ | .cueDrop _ | .cueRead _
  | .cueList _ | .queueAdd _ | .queueTake _ | .queueSkip _ | .queueClear _ | .queueRead _ | .launch _ | .jog _ | .hold _
  | .returnDock _ | .stop _ | .resume _ | .flightRead _ | .winchRead _ | .driveQuery _ | .counters _ | .conditionsRead _
  | .acknowledge _ | .configRead _ | .configWrite _ | .configSave _ | .restart _ => true
  | _ => false

theorem command_of_isRequest {c : Instr} (h : isRequest c = true) : ∃ (r : Request) (p : Port), c = r.command p := by
  cases c with
  | zonePut p => exact ⟨.zonePut 0 ⟨0, 0, 0, 0, 0, 0⟩ 0 0 0 none none, p, rfl⟩
  | zoneShift p => exact ⟨.zoneShift 0 0 ⟨0, 0, 0, 0, 0, 0⟩ none none none, p, rfl⟩
  | zoneRenew p => exact ⟨.zoneRenew 0 0 0, p, rfl⟩
  | zoneSuspend p => exact ⟨.zoneSuspend 0 0, p, rfl⟩
  | zoneResume p => exact ⟨.zoneResume 0 0, p, rfl⟩
  | zoneDrop p => exact ⟨.zoneDrop 0 0, p, rfl⟩
  | zoneRead p => exact ⟨.zoneRead 0 0, p, rfl⟩
  | zoneList p => exact ⟨.zoneList 0 0, p, rfl⟩
  | groupSuspend p => exact ⟨.groupSuspend 0, p, rfl⟩
  | groupResume p => exact ⟨.groupResume 0, p, rfl⟩
  | clockFreeze p => exact ⟨.clockFreeze, p, rfl⟩
  | clockThaw p => exact ⟨.clockThaw, p, rfl⟩
  | clockRead p => exact ⟨.clockRead, p, rfl⟩
  | cueStore p => exact ⟨.cueStore 0 [] .zero 0 0 0, p, rfl⟩
  | cueDrop p => exact ⟨.cueDrop 0 0, p, rfl⟩
  | cueRead p => exact ⟨.cueRead 0 0, p, rfl⟩
  | cueList p => exact ⟨.cueList 0, p, rfl⟩
  | queueAdd p => exact ⟨.queueAdd 0 0 0, p, rfl⟩
  | queueTake p => exact ⟨.queueTake, p, rfl⟩
  | queueSkip p => exact ⟨.queueSkip, p, rfl⟩
  | queueClear p => exact ⟨.queueClear, p, rfl⟩
  | queueRead p => exact ⟨.queueRead, p, rfl⟩
  | launch p => exact ⟨.launch, p, rfl⟩
  | jog p => exact ⟨.jog .zero, p, rfl⟩
  | hold p => exact ⟨.hold, p, rfl⟩
  | returnDock p => exact ⟨.returnDock, p, rfl⟩
  | stop p => exact ⟨.stop, p, rfl⟩
  | resume p => exact ⟨.resume, p, rfl⟩
  | flightRead p => exact ⟨.flightRead, p, rfl⟩
  | winchRead p => exact ⟨.winchRead 0, p, rfl⟩
  | driveQuery p => exact ⟨.driveQuery 0 0 [], p, rfl⟩
  | counters p => exact ⟨.counters 0 0, p, rfl⟩
  | conditionsRead p => exact ⟨.conditionsRead 0, p, rfl⟩
  | acknowledge p => exact ⟨.acknowledge 0, p, rfl⟩
  | configRead p => exact ⟨.configRead 0 none, p, rfl⟩
  | configWrite p => exact ⟨.configWrite 0 [], p, rfl⟩
  | configSave p => exact ⟨.configSave, p, rfl⟩
  | restart p => exact ⟨.restart, p, rfl⟩
  | _ => cases h

/-- A command that is not a request answers within its regions. -/
theorem exec_event_within {c : Instr} (hc : isRequest c = false) (s : State) : AnswersWithin (regionsOf c) s (exec c s) := by
  cases c
  all_goals simp only [exec, regionsOf]
  case requestArrival p bs => exact whileRunning_within (changes_withPort p _ s)
  case gapTimerExpiry p => exact onExpiry_within fun t => changes_withPort p _ t
  case transmitRoomFreed p n => exact whileRunning_within (changes_withPort p _ s)
  case noticeHanded =>
    unfold execNoticeHanded
    split
    · exact .refl
    · exact whileRunning_within ((changes_cif s (placeNoticeOnAll _ s.cif)).trans (changes_chan _ _))
  case powerOn => exact ⟨_, rfl, .ite (changes_part s _) (changes_start s)⟩
  case resetAsserted => exact ⟨_, rfl, changes_part s _⟩
  case resetReleased => exact ⟨_, rfl, .ite (changes_start s) (changes_part s _)⟩
  case restartResponseSent => exact ⟨_, rfl, .ite (changes_start s) (.refl s)⟩
  case estopAsserted =>
    refine ⟨_, rfl, .ite ?_ (changes_part s _)⟩
    exact ((changes_part s _).trans (changes_raiseCause _ _).mono).trans (changes_raiseCondition _ _).mono
  case estopReleased =>
    refine ⟨_, rfl, .ite ?_ (changes_part s _)⟩
    exact ((changes_part s _).trans (changes_clearCause _ _).mono).trans (changes_clearCondition _ _).mono
  case servoStep => exact onExpiry_within changes_servoStep
  case carry => exact onExpiry_within changes_carryFalls
  case dwellTimerExpiry =>
    exact onExpiry_within fun t => ((changes_ct t _).trans (startTest_frame _).changes).trans (reportQueue_frame _ _).changes
  case deadmanExpiry => exact onExpiry_within fun t => changes_fc t _
  case launchTimerExpiry => exact onExpiry_within fun t => (changes_fc t _).trans (changes_raiseCause _ _)
  case settleTimerExpiry => exact onExpiry_within fun t => (changes_fc t _).trans (changes_raiseCause _ _)
  case slackTimerExpiry w =>
    exact onExpiry_within fun t => (changes_setCondition _ _ _ _ t).trans (changes_lmCause _ _ _).mono
  case followTimerExpiry w =>
    exact onExpiry_within fun t => (changes_setCondition _ _ _ _ t).trans (changes_lmCause _ _ _).mono
  case periodBoundary =>
    unfold execPeriodBoundary
    split
    · exact onExpiry_within fun t => changes_su t _
    · exact .refl
  case saveEnd =>
    unfold execSaveEnd
    split
    · exact .refl
    · exact onExpiry_within fun t => changes_endSave _ t
  case stateFrame w bs => exact whileRunning_within (.foldl (fun t b => changes_linkByte w b t) bs s)
  case stateByteGap w => exact whileRunning_within (.ite (.refl s) ((changes_wlc s _).trans (changes_badCheck w _)))
  case windowEnd w =>
    unfold execWindowEnd
    split
    · exact whileRunning_within (changes_settleLink w s).mono
    · exact .refl
  case queryTimeout w =>
    unfold execQueryTimeout
    split
    · exact whileRunning_within (changes_timeoutQuery w s).mono
    · exact .refl
  case positionReport =>
    unfold execPositionReport
    split
    · exact .refl
    · exact whileRunning_within ((changes_chan s _).trans (changes_takePositionReport _ _))
  case changeReportCt =>
    unfold execChangeReportCt
    split
    · exact .refl
    · next r _ _ =>
      refine whileRunning_within (.trans ?_ (changes_recomputeCues _))
      exact (changes_ct s { s.ct with zones := r.inForce }).trans (changes_chan _ _)
  case allowanceReport =>
    unfold execAllowanceReport
    split
    · exact .refl
    · next a _ _ =>
      refine whileRunning_within (.trans ?_ (changes_recomputeCues _))
      exact (changes_ct s { s.ct with allowance := a }).trans (changes_chan _ _)
  case changeReportFc =>
    refine (takeFc_within (rs := [.ct, .fc, .wlc, .chan]) fun m f hf t => ?_).mono
    split at hf
    · cases hf; exact (changes_fc t _).trans (takeChangeReport_frame _ t).changes
    · cases hf
  case zoneSummary =>
    refine (takeFc_within (rs := [.ct, .fc, .wlc, .chan]) fun m f hf t => ?_).mono
    split at hf
    · cases hf; exact (changes_fc t _).trans (takeSummary_frame _ _ t).changes
    · cases hf
  case stopCauseRaise b =>
    refine (takeFc_within (rs := [.ct, .fc, .wlc, .chan]) fun m f hf t => ?_).mono
    split at hf
    · cases hf; exact changes_raiseCause _ t
    · cases hf
  case stopCauseClear b =>
    refine takeFc_within fun m f hf t => ?_
    split at hf
    · cases hf; exact changes_clearCause _ t
    · cases hf
  case driveStatus =>
    refine (takeFc_within (rs := [.ct, .fc, .wlc, .chan]) fun m f hf t => ?_).mono
    split at hf
    · cases hf; exact changes_takeDriveStatus _ _ t
    · cases hf
  case linkState =>
    refine takeFc_within fun m f hf t => ?_
    split at hf
    · cases hf; exact changes_fc t _
    · cases hf
  case hotFlag =>
    refine (takeFc_within (rs := [.ct, .fc, .wlc, .chan]) fun m f hf t => ?_).mono
    split at hf
    · cases hf; exact changes_takeHot _ t
    · cases hf
  case highFlag =>
    refine takeFc_within fun m f hf t => ?_
    split at hf
    · cases hf; exact changes_fc t _
    · cases hf
  case warmFlag =>
    refine takeFc_within fun m f hf t => ?_
    split at hf
    · cases hf; exact changes_fc t _
    · cases hf
  case conditionRaiseAtSu b =>
    refine (takeSu_within (rs := [.su, .chan]) fun m f hf t => ?_).mono
    split at hf
    · cases hf; exact changes_raiseCondition _ t
    · cases hf
  case conditionClearAtSu b =>
    refine (takeSu_within (rs := [.su, .chan]) fun m f hf t => ?_).mono
    split at hf
    · cases hf; exact changes_clearCondition _ t
    · cases hf
  case airborneIndication =>
    refine takeSu_within fun m f hf t => ?_
    split at hf
    · cases hf; exact changes_setAirborne _ t
    · cases hf
  case badFrame p bs => exact whileRunning_within (changes_withPort p _ s)
  case powerLoss => exact ⟨_, rfl, changes_part s _⟩
  all_goals cases hc

/-- Every command answers a next state and changes only its regions. -/
theorem exec_within (c : Instr) (s : State) : AnswersWithin (regionsOf c) s (exec c s) := by
  cases hc : isRequest c with
  | true =>
    obtain ⟨r, p, rfl⟩ := command_of_isRequest hc
    exact exec_command_within r p s
  | false => exact exec_event_within hc s

theorem exec_changes {c : Instr} {s u : State} (e : exec c s = .next u) : ChangesOnly (regionsOf c) s u := (exec_within c s).changes e

/-! ## Steps -/

/-- Settles O3: every command answers within its regions, and no region holds the queue of waiting commands. -/
theorem everyCommandAnswersNext : Obligations.EveryCommandAnswersNext := by
  unfold Obligations.EveryCommandAnswersNext
  intro c s
  obtain ⟨u, e, hpending, -⟩ := exec_within c s
  exact ⟨u, e, hpending⟩

theorem step_of_pending {s : State} {c : Instr} {rest : List Instr} (h : s.pending = c :: rest) :
    step s = exec c { s with pending := rest } := by
  simp only [step, h]

theorem step_of_empty {s : State} (h : s.pending = []) : step s = .next (tick s) := by
  simp only [step, h]

/-- Settles O1, by the equation of `step` for a queue with a front. -/
theorem stepTakesTheFrontCommand : Obligations.StepTakesTheFrontCommand := by
  unfold Obligations.StepTakesTheFrontCommand
  exact fun _ _ _ h => step_of_pending h

theorem running_of {q : Part} (hs : q.supply = true) (hr : q.resetLine = false) : q.running = true := (running_iff q).mpr ⟨hs, hr⟩

theorem not_running_of {q : Part} (h : q.supply = false ∨ q.resetLine = true) : q.running = false := by
  obtain h | h := h <;> simp [Part.running, h]

/-- Settles O2, by the two branches of `tick`. -/
theorem emptyQueueTicksAndNoWordSpells : Obligations.EmptyQueueTicksAndNoWordSpells := by
  unfold Obligations.EmptyQueueTicksAndNoWordSpells
  refine ⟨fun s hs => ⟨fun hrun => ?ticks, fun hheld => ?stands⟩, fun _ _ _ => ⟨rfl, rfl⟩⟩
  case ticks => rw [step_of_empty hs, tick, if_pos (running_of hrun.1 hrun.2)]
  case stands => rw [step_of_empty hs, tick, if_neg (by simp [not_running_of hheld])]

/-- A step is a tick, or the front command on the state with the rest of the queue. -/
theorem step_cases {s u : State} (h : step s = .next u) :
    u = tick s ∨ ∃ c rest, s.pending = c :: rest ∧ exec c { s with pending := rest } = .next u := by
  cases hp : s.pending with
  | nil =>
    rw [step_of_empty hp] at h
    cases h
    exact .inl rfl
  | cons c rest => exact .inr ⟨c, rest, rfl, (step_of_pending hp).symm.trans h⟩

/-- A property that every command keeps, and that neither part time nor the queue of waiting commands bears on, is kept by every step. -/
theorem Kept.of_exec {inv : State → Prop} (htime : ∀ s t, inv s → inv { s with part := { s.part with partTime := t } })
    (hpending : ∀ s l, inv s → inv { s with pending := l }) (hexec : ∀ c s u, inv s → exec c s = .next u → inv u) : Kept inv := by
  intro s u hs h
  obtain rfl | ⟨c, rest, -, h⟩ := step_cases h
  · unfold tick
    split
    · exact htime s _ hs
    · exact hs
  · exact hexec c _ u (hpending s rest hs) h

end Sys2Proof.Machine
end

section
/-! PROOF. The console ports: what giving way, placing, taking and receiving do to one port, and the settling of O13. -/

namespace Sys2Proof.Machine

set_option Elab.async false

/-! ## Notices that give way -/

theorem removeNewestNotice_eq_none {l : List TxFrame} : removeNewestNotice l = none ↔ ∀ f ∈ l, f.notice = false := by
  induction l with
  | nil => simp [removeNewestNotice]
  | cons f rest ih =>
    unfold removeNewestNotice
    split
    · next rest' h =>
      have hne : ¬ ∀ g ∈ rest, g.notice = false := fun hall => by simp [ih.mpr hall] at h
      simp only [reduceCtorEq, List.mem_cons, forall_eq_or_imp, false_iff, not_and]
      exact fun _ => hne
    · next h =>
      have hrest := ih.mp h
      cases hf : f.notice <;> simp [hf]
      exact hrest

/-- The frame removed is a notice, with none behind it. -/
theorem removeNewestNotice_eq_some {l l' : List TxFrame} (h : removeNewestNotice l = some l') :
    ∃ a f b, l = a ++ f :: b ∧ l' = a ++ b ∧ f.notice = true ∧ ∀ g ∈ b, g.notice = false := by
  induction l generalizing l' with
  | nil => simp [removeNewestNotice] at h
  | cons f rest ih =>
    unfold removeNewestNotice at h
    split at h
    · next rest' hr =>
      cases h
      obtain ⟨a, g, b, rfl, rfl, hg, hb⟩ := ih hr
      exact ⟨f :: a, g, b, rfl, rfl, hg, hb⟩
    · next hr =>
      split at h
      · next hf =>
        cases h
        exact ⟨[], f, _, rfl, rfl, hf, removeNewestNotice_eq_none.mp hr⟩
      · cases h

/-- What giving way does to a port (R198): notices leave, the newest first and none that is begun, and the overrun flag is set for them. -/
structure Trimmed (q q' : PortState) : Prop where
  frame : q' = { q with tx := q'.tx, overrun := q'.overrun }
  sublist : q'.tx.Sublist q.tx
  responses : q'.tx.filter (fun f => !f.notice) = q.tx.filter (fun f => !f.notice)
  notices : q'.tx.filter TxFrame.notice <+: q.tx.filter TxFrame.notice
  begun : 0 < q.txSent → q'.tx.head? = q.tx.head?
  flagged : q'.tx ≠ q.tx → q'.overrun = true
  same : q'.tx = q.tx → q' = q

theorem Trimmed.refl (q : PortState) : Trimmed q q :=
  ⟨rfl, .refl _, rfl, List.prefix_rfl, fun _ => rfl, fun h => absurd rfl h, fun _ => rfl⟩

theorem Trimmed.trans {q t u : PortState} (h : Trimmed q t) (k : Trimmed t u) : Trimmed q u where
  frame := by rw [k.frame, h.frame]
  sublist := k.sublist.trans h.sublist
  responses := k.responses.trans h.responses
  notices := k.notices.trans h.notices
  begun hq := by
    have ht : 0 < t.txSent := by rw [h.frame]; exact hq
    exact (k.begun ht).trans (h.begun hq)
  flagged hne := by
    by_cases hu : u.tx = t.tx
    · rw [k.same hu] at hne ⊢
      exact h.flagged hne
    · exact k.flagged hu
  same he := by
    have ht : t.tx = q.tx := by
      refine h.sublist.eq_of_length (Nat.le_antisymm h.sublist.length_le ?_)
      rw [← he]
      exact k.sublist.length_le
    rw [k.same (he.trans ht.symm), h.same ht]

/-- Of a buffer whose frames past `kept` lose their newest notice. -/
theorem Trimmed.of_removed {q : PortState} {kept l l' : List TxFrame} (hq : q.tx = kept ++ l) (h : removeNewestNotice l = some l')
    (hbegun : 0 < q.txSent → kept ≠ []) : Trimmed q { q with tx := kept ++ l', overrun := true } := by
  obtain ⟨a, f, b, rfl, rfl, hf, hb⟩ := removeNewestNotice_eq_some h
  have hnotices : b.filter TxFrame.notice = [] := List.filter_eq_nil_iff.mpr fun g hg => by simp [hb g hg]
  refine ⟨rfl, ?_, ?_, ?_, ?_, fun _ => rfl, ?_⟩
  · rw [hq]
    exact List.Sublist.append_left (List.Sublist.append_left (List.sublist_cons_self f b) a) kept
  · simp [hq, hf]
  · simp [hq, hf, hnotices]
  · intro hs
    cases kept with
    | nil => exact absurd rfl (hbegun hs)
    | cons g kept => simp [hq]
  · intro he
    have hlen := congrArg List.length he
    simp [hq] at hlen

/-- The frames of a port that may give way: all but one that is begun. -/
def PortState.unbegun (q : PortState) : List TxFrame := if q.txSent = 0 then q.tx else q.tx.tail

theorem removeNotice_eq_some {q q' : PortState} (h : q.removeNotice = some q') : Trimmed q q' ∧ q'.tx.length < q.tx.length := by
  have shorter {l l' : List TxFrame} (h : removeNewestNotice l = some l') : l'.length < l.length := by
    obtain ⟨a, f, b, rfl, rfl, -, -⟩ := removeNewestNotice_eq_some h
    simp
  unfold PortState.removeNotice at h
  split at h
  · cases h
  · next f rest htx =>
    split at h
    · next h0 =>
      obtain ⟨l', hl, rfl⟩ := Option.map_eq_some_iff.mp h
      exact ⟨.of_removed (kept := []) htx hl (by omega), by rw [htx]; exact shorter hl⟩
    · obtain ⟨l', hl, rfl⟩ := Option.map_eq_some_iff.mp h
      exact ⟨.of_removed (kept := [f]) htx hl (by simp), by rw [htx]; simpa using shorter hl⟩

theorem removeNotice_eq_none {q : PortState} (h : q.removeNotice = none) : ∀ f ∈ q.unbegun, f.notice = false := by
  unfold PortState.removeNotice at h
  unfold PortState.unbegun
  split at h
  · next htx => simp [htx]
  · next f rest htx =>
    split at h
    · next h0 => rw [if_pos h0, htx]; exact removeNewestNotice_eq_none.mp (Option.map_eq_none_iff.mp h)
    · next h0 => rw [if_neg h0, htx]; exact removeNewestNotice_eq_none.mp (Option.map_eq_none_iff.mp h)

theorem makeRoom_trimmed (n fuel : Nat) (q : PortState) : Trimmed q (q.makeRoom n fuel) := by
  induction fuel generalizing q with
  | zero => exact .refl q
  | succ fuel ih =>
    unfold PortState.makeRoom
    split
    · exact .refl q
    · split
      · exact .refl q
      · next h => exact (removeNotice_eq_some h).1.trans (ih _)

theorem makeRoom_of_fits {n : Nat} {q : PortState} (h : q.fits n = true) (fuel : Nat) : q.makeRoom n fuel = q := by
  cases fuel with
  | zero => rfl
  | succ fuel => simp [PortState.makeRoom, h]

/-- With fuel for every frame, room is made or no notice is left that may give way (R198). -/
theorem makeRoom_done (n fuel : Nat) (q : PortState) (hf : q.tx.length ≤ fuel) :
    (q.makeRoom n fuel).fits n = true ∨ ∀ f ∈ (q.makeRoom n fuel).unbegun, f.notice = false := by
  induction fuel generalizing q with
  | zero =>
    have htx : q.tx = [] := List.eq_nil_of_length_eq_zero (by omega)
    exact .inr (by simp [PortState.makeRoom, PortState.unbegun, htx])
  | succ fuel ih =>
    unfold PortState.makeRoom
    split
    · next h => exact .inl h
    · split
      · next h => exact .inr (removeNotice_eq_none h)
      · next q' h => exact ih q' (by have := (removeNotice_eq_some h).2; omega)

theorem sizes_le_of_sublist {l l' : List TxFrame} (h : l'.Sublist l) : (l'.map TxFrame.size).sum ≤ (l.map TxFrame.size).sum := by
  induction h with
  | slnil => exact Nat.le_refl _
  | cons f _ ih => exact Nat.le_trans ih (by simp)
  | cons_cons f _ ih => simpa using ih

theorem Trimmed.used_le {q q' : PortState} (h : Trimmed q q') : q'.used ≤ q.used := by
  have hs := sizes_le_of_sublist h.sublist
  have ht : q'.txSent = q.txSent := by rw [h.frame]
  unfold PortState.used
  omega

/-! ## Placing a response or a notice -/

/-- A frame appended takes its size of the buffer at most. -/
theorem used_append_le (q : PortState) (f : TxFrame) (b : Bool) :
    ({ q with tx := q.tx ++ [f], overrun := b } : PortState).used ≤ q.used + f.size := by
  simp only [PortState.used, List.map_append, List.sum_append, List.map_cons, List.map_nil, List.sum_singleton]
  omega

@[simp] theorem length_flag (b : Bool) : (flag b).length = 1 := rfl

@[simp] theorem Response.size_frame (r : Response) (b : Bool) : (r.frame b).size = r.size := by
  simp [Response.frame, Response.size, TxFrame.size]

theorem fits_iff (q : PortState) (n : Nat) : q.fits n = true ↔ q.used + n ≤ 512 := decide_eq_true_iff

/-- Placing a response changes the buffer and the overrun flag alone, and keeps the buffer in its size (R198). -/
theorem place_keeps (r : Response) (q : PortState) :
    (q.place r).1 = { q with tx := (q.place r).1.tx, overrun := (q.place r).1.overrun } ∧
    (q.used ≤ 512 → (q.place r).1.used ≤ 512) := by
  have hroom := makeRoom_trimmed r.size q.tx.length q
  unfold PortState.place
  dsimp only
  split
  · next hfits =>
    refine ⟨by rw [hroom.frame], fun _ => Nat.le_trans (used_append_le _ _ _) ?_⟩
    simpa using (fits_iff _ _).mp hfits
  · exact ⟨hroom.frame, Nat.le_trans hroom.used_le⟩

theorem place_of_fits {r : Response} {q : PortState} (h : q.fits r.size = true) :
    q.place r = ({ q with tx := q.tx ++ [r.frame q.overrun], overrun := false }, true) := by
  simp [PortState.place, makeRoom_of_fits h, h]

/-! ## One port's bounds -/

/-- One port's buffers and counters are in their sizes (R193, R194, R198). -/
def PortState.bounded (q : PortState) : Prop := q.queue.length ≤ 4 ∧ q.used ≤ 512 ∧ q.badFrames ≤ 65535

/-- A port has no more waiting requests than another, no fuller a buffer than the size allows where the other has none, and the other's
receiver and counter. -/
structure PortStep (q q' : PortState) : Prop where
  queue : q'.queue.length ≤ q.queue.length
  used : q.used ≤ 512 → q'.used ≤ 512
  badFrames : q'.badFrames = q.badFrames
  rx : q'.rx = q.rx
  gapTimer : q'.gapTimer = q.gapTimer

theorem PortStep.refl (q : PortState) : PortStep q q := ⟨Nat.le_refl _, id, rfl, rfl, rfl⟩

theorem PortStep.trans {q t u : PortState} (h : PortStep q t) (k : PortStep t u) : PortStep q u :=
  ⟨Nat.le_trans k.queue h.queue, fun x => k.used (h.used x), k.badFrames.trans h.badFrames, k.rx.trans h.rx, k.gapTimer.trans h.gapTimer⟩

theorem place_step (r : Response) (q : PortState) : PortStep q (q.place r).1 := by
  obtain ⟨hframe, hused⟩ := place_keeps r q
  exact ⟨Nat.le_of_eq (by rw [hframe]), hused, by rw [hframe], by rw [hframe], by rw [hframe]⟩

/-- Taking from a list of requests leaves some of them waiting (R194). -/
theorem takeFrom_step (p : Port) (l : List QueuedRequest) (q : PortState) (hl : l.length ≤ q.queue.length) :
    PortStep q (q.takeFrom p l) := by
  induction l generalizing q with
  | nil => exact ⟨by simp [PortState.takeFrom], id, rfl, rfl, rfl⟩
  | cons r rest ih =>
    have hrest : rest.length ≤ q.queue.length := Nat.le_of_succ_le hl
    unfold PortState.takeFrom
    split
    · exact ⟨hrest, id, rfl, rfl, rfl⟩
    · have hplace := place_step { kind := r.kind + 0x80#8, tag := r.tag, result := ‹Result›, content := [] } q
      have hqueue := congrArg PortState.queue (place_keeps { kind := r.kind + 0x80#8, tag := r.tag, result := ‹Result›, content := [] } q).1
      dsimp only at hqueue ⊢
      split
      · exact hplace.trans (ih _ (hqueue ▸ hrest))
      · exact hplace.trans ⟨hqueue ▸ hrest, id, rfl, rfl, rfl⟩

theorem takeNext_step (p : Port) (restarting : Bool) (q : PortState) : PortStep q (q.takeNext p restarting) := by
  unfold PortState.takeNext
  split
  · exact .refl q
  · exact takeFrom_step p _ q (Nat.le_refl _)

/-- A port whose request in progress alone differs. -/
theorem PortStep.of_inProgress (q : PortState) (i : Option InProgress) : PortStep q { q with inProgress := i } :=
  ⟨Nat.le_refl _, id, rfl, rfl, rfl⟩

theorem retry_step (p : Port) (restarting : Bool) (q : PortState) : PortStep q (q.retry p restarting) := by
  unfold PortState.retry
  split
  · dsimp only
    split
    · exact ((place_step _ q).trans (.of_inProgress _ none)).trans (takeNext_step p restarting _)
    · exact place_step _ q
  · exact .refl q

theorem respond_step (p : Port) (restarting : Bool) (result : Result) (content : List Byte) (q : PortState) :
    PortStep q (q.respond p restarting result content) := by
  unfold PortState.respond
  split
  · exact .refl q
  · exact (PortStep.of_inProgress q _).trans (retry_step p restarting _)

theorem placeNotice_step (n : Notice) (q : PortState) : PortStep q (q.placeNotice n) := by
  unfold PortState.placeNotice
  dsimp only
  split
  · exact ⟨Nat.le_refl _, id, rfl, rfl, rfl⟩
  · next h =>
    refine ⟨Nat.le_refl _, fun _ => Nat.le_trans (used_append_le q _ q.overrun) ?_, rfl, rfl, rfl⟩
    exact (fits_iff _ _).mp (by simp only [Bool.or_eq_true, not_or, Bool.not_eq_true, Bool.not_eq_false'] at h; exact h.2)

/-- Of the frames sent, those left hold no more bytes than were unsent. -/
theorem sentFrames_used (total : Nat) (l : List TxFrame) :
    ((sentFrames total l).1.map TxFrame.size).sum - (sentFrames total l).2 ≤ (l.map TxFrame.size).sum - total := by
  induction l generalizing total with
  | nil => simp [sentFrames]
  | cons f rest ih =>
    unfold sentFrames
    split
    · have := ih (total - f.size)
      simp only [List.map_cons, List.sum_cons]
      omega
    · exact Nat.le_refl _

theorem send_step (p : Port) (restarting : Bool) (sent : Nat) (q : PortState) : PortStep q (q.send p restarting sent) := by
  refine .trans (t := { q with tx := (sentFrames (q.txSent + sent) q.tx).1, txSent := (sentFrames (q.txSent + sent) q.tx).2 })
    ⟨Nat.le_refl _, fun h => ?_, rfl, rfl, rfl⟩ (retry_step p restarting _)
  have := sentFrames_used (q.txSent + sent) q.tx
  unfold PortState.used at h ⊢
  dsimp only at *
  omega

theorem placeBusy_step (kind tag : Byte) (q : PortState) : PortStep q (q.placeBusy kind tag) := by
  have hplace := place_step { kind := kind + 0x80#8, tag := tag, result := .busy, content := [] } q
  unfold PortState.placeBusy
  dsimp only
  split
  · exact hplace
  · exact hplace.trans ⟨Nat.le_refl _, id, rfl, rfl, rfl⟩

/-! ## A property of each port that every command keeps -/

/-- A property of one port that all which CIF does to a port keeps: responses, a query's hold, notices, bytes sent and received, a frame
that is discarded, the counter's clear. -/
structure PortInvariant (P : PortState → Prop) : Prop where
  step : ∀ q q', PortStep q q' → P q → P q'
  arrives : ∀ p restarting due q l, P q → P (PortState.takeLine p restarting due q l)
  discards : ∀ q, P q → P q.discard
  clears : ∀ q, P q → P { q with badFrames := 0 }
  resets : P .reset

theorem saturate_le {n : Nat} (h : n ≤ 65535) : saturate n ≤ 65535 := by
  unfold saturate
  split <;> omega

/-- What the arrival of a whole request does: it joins a queue that has room, or BUSY is placed (R194). -/
theorem arrive_bounded (p : Port) (restarting : Bool) (r : QueuedRequest) {q : PortState} (h : q.bounded) :
    (q.arrive p restarting r).bounded := by
  obtain ⟨hqueue, hused, hbad⟩ := h
  unfold PortState.arrive
  split
  · next hroom =>
    have hstep := takeNext_step p restarting { q with queue := q.queue ++ [r] }
    have hlength : (q.queue ++ [r]).length ≤ 4 := by rw [List.length_append]; exact hroom
    exact ⟨Nat.le_trans hstep.queue hlength, hstep.used hused, Nat.le_trans (Nat.le_of_eq hstep.badFrames) hbad⟩
  · have hstep := placeBusy_step r.kind r.tag q
    exact ⟨Nat.le_trans hstep.queue hqueue, hstep.used hused, Nat.le_trans (Nat.le_of_eq hstep.badFrames) hbad⟩

theorem discard_bounded {q : PortState} (h : q.bounded) : q.discard.bounded := ⟨h.1, h.2.1, saturate_le h.2.2⟩

theorem takeByte_bounded (p : Port) (restarting : Bool) (due : PartTime) (b : Byte) {q : PortState} (h : q.bounded) :
    (q.takeByte p restarting due b).bounded := by
  have goes (rx : Receiver) : (q.goOn rx due).bounded := h
  unfold PortState.takeByte
  split
  case h_1 =>
    split
    · exact goes _
    · exact h
  case h_2 =>
    split
    · exact goes _
    · exact discard_bounded h
  case h_7 =>
    split
    · exact arrive_bounded p restarting _ h
    · exact discard_bounded h
  all_goals exact goes _

theorem bounded_invariant : PortInvariant PortState.bounded where
  step _ _ hs h := ⟨Nat.le_trans hs.queue h.1, hs.used h.2.1, Nat.le_trans (Nat.le_of_eq hs.badFrames) h.2.2⟩
  arrives p restarting due q l h := by
    cases l with
    | byte b => exact takeByte_bounded p restarting due b h
    | framingError =>
      simp only [PortState.takeLine, PortState.framingError]
      split
      · exact h
      · exact discard_bounded h
  discards _ := discard_bounded
  clears _ h := ⟨h.1, h.2.1, Nat.zero_le _⟩
  resets := ⟨Nat.zero_le _, Nat.zero_le _, Nat.zero_le _⟩

/-- What the body bytes taken in a receiver's state say of its length byte (R193). -/
def receiverInRange : Receiver → Prop
  | .hunt | .length => True
  | .header n _ => n.toNat ≤ 240
  | .body n _ _ taken => n.toNat ≤ 240 ∧ taken.length < n.toNat
  | .check n _ _ taken _ => n.toNat ≤ 240 ∧ taken.length = n.toNat

theorem receiverFits_iff (q : PortState) : receiverFits q ↔ (q.rx = .hunt ↔ q.gapTimer = none) ∧ receiverInRange q.rx := by
  unfold receiverFits receiverInRange
  cases q.rx <;> rfl

/-- A receiver in HUNT whose gap timer is stopped is sound. -/
theorem receiverFits_hunt {q : PortState} (hrx : q.rx = .hunt) (hgap : q.gapTimer = none) : receiverFits q := by
  simp [receiverFits_iff, hrx, hgap, receiverInRange]

theorem goOn_receiverFits {rx : Receiver} (hne : rx ≠ .hunt) (h : receiverInRange rx) (due : PartTime) (q : PortState) :
    receiverFits (q.goOn rx due) := by
  simp [receiverFits_iff, PortState.goOn, hne, h]

theorem arrive_receiverFits (p : Port) (restarting : Bool) (r : QueuedRequest) (q : PortState) :
    receiverFits ({ q with rx := .hunt, gapTimer := none }.arrive p restarting r) := by
  unfold PortState.arrive
  split
  · have hstep := takeNext_step p restarting { q with rx := .hunt, gapTimer := none, queue := q.queue ++ [r] }
    exact receiverFits_hunt hstep.rx hstep.gapTimer
  · have hstep := placeBusy_step r.kind r.tag { q with rx := .hunt, gapTimer := none }
    exact receiverFits_hunt hstep.rx hstep.gapTimer

/-- Every byte leaves the receiver in a state of its table (R193). -/
theorem takeByte_receiverFits (p : Port) (restarting : Bool) (due : PartTime) (b : Byte) {q : PortState} (h : receiverFits q) :
    receiverFits (q.takeByte p restarting due b) := by
  have discarded : receiverFits q.discard := receiverFits_hunt rfl rfl
  obtain ⟨-, hrange⟩ := (receiverFits_iff q).mp h
  have goes {rx : Receiver} (hne : rx ≠ .hunt) : receiverInRange rx → receiverFits (q.goOn rx due) :=
    fun h => goOn_receiverFits hne h due q
  unfold PortState.takeByte
  split
  all_goals
    rename_i hrx
    rw [hrx] at hrange
    dsimp only [receiverInRange] at hrange
  case h_1 =>
    split
    · exact goes (by simp) trivial
    · exact h
  case h_2 =>
    split
    · next hb => exact goes (by simp) hb
    · exact discarded
  case h_3 n => exact goes (by simp) hrange
  case h_4 n kind =>
    split
    · next h0 => exact goes (by simp) ⟨hrange, by simp [h0]⟩
    · next h0 => exact goes (by simp) ⟨hrange, Nat.pos_of_ne_zero fun e => h0 (BitVec.eq_of_toNat_eq e)⟩
  case h_5 n kind tag taken =>
    obtain ⟨hn, htaken⟩ := hrange
    split
    · next hmore => exact goes (by simp) ⟨hn, by simpa using hmore⟩
    · next hlast => exact goes (by simp) ⟨hn, by simp; omega⟩
  case h_6 => exact goes (by simp) hrange
  case h_7 =>
    split
    · exact arrive_receiverFits p restarting _ q
    · exact discarded

theorem receiver_invariant : PortInvariant receiverFits where
  step q q' hs h := by
    rw [receiverFits_iff] at h ⊢
    rwa [hs.rx, hs.gapTimer]
  arrives p restarting due q l h := by
    cases l with
    | byte b => exact takeByte_receiverFits p restarting due b h
    | framingError =>
      simp only [PortState.takeLine, PortState.framingError]
      split
      · exact h
      · exact receiverFits_hunt rfl rfl
  discards _ _ := receiverFits_hunt rfl rfl
  clears _ h := h
  resets := receiverFits_hunt rfl rfl

/-- A property of each of the three ports. -/
def OnPorts (P : PortState → Prop) (s : State) : Prop := ∀ p, P (s.cif.port p)

section
variable {P : PortState → Prop} {s u : State}

theorem OnPorts.of_cif (h : OnPorts P s) (e : u.cif = s.cif) : OnPorts P u := fun p => e ▸ h p

theorem OnPorts.withPort {f : PortState → PortState} (p : Port) (h : OnPorts P s) (hf : ∀ q, P q → P (f q)) :
    OnPorts P (withPort p f s) := by
  intro p'
  by_cases hp : p' = p
  · subst hp
    simpa [Machine.withPort] using hf _ (h p')
  · simpa [Machine.withPort, Cif.port_setPort_other _ _ hp] using h p'

theorem OnPorts.foldl {α : Type} {f : State → α → State} (hf : ∀ t a, OnPorts P t → OnPorts P (f t a)) (l : List α)
    (h : OnPorts P s) : OnPorts P (l.foldl f s) := by
  induction l generalizing s with
  | nil => exact h
  | cons a l ih => exact ih (hf s a h)

theorem OnPorts.ite {t : State} {c : Prop} [Decidable c] (h : OnPorts P s) (k : OnPorts P t) : OnPorts P (if c then s else t) := by
  split <;> assumption

theorem OnPorts.whileRunning {f : State → State} (h : OnPorts P s) (hf : OnPorts P (f s)) (e : whileRunning f s = .next u) :
    OnPorts P u := by
  cases e
  exact .ite hf h

theorem onPorts_iff : OnPorts P s ↔ P s.cif.pilot ∧ P s.cif.director ∧ P s.cif.safety := by
  refine ⟨fun h => ⟨h .pilot, h .director, h .safety⟩, fun h p => ?_⟩
  cases p
  · exact h.1
  · exact h.2.1
  · exact h.2.2

variable (hP : PortInvariant P)
include hP

theorem OnPorts.respond (p : Port) (r : Result) (c : List Byte) (h : OnPorts P s) : OnPorts P (respond p r c s) :=
  h.withPort p fun q => hP.step q _ (respond_step p _ r c q)

theorem OnPorts.endQuery (w : Winch) (q : QuerySlot) (r : Result) (c : List Byte) (h : OnPorts P s) :
    OnPorts P (endQuery w q r c s) := OnPorts.respond hP _ _ _ (h.of_cif rfl)

theorem OnPorts.timeoutQuery (w : Winch) (h : OnPorts P s) : OnPorts P (timeoutQuery w s) := by
  unfold Machine.timeoutQuery
  split
  · split
    · exact h.endQuery hP _ _ _ _
    · exact h
  · exact h

theorem OnPorts.failQueryIfLost (w : Winch) (entered : LinkState) (h : OnPorts P s) : OnPorts P (failQueryIfLost w entered s) := by
  unfold Machine.failQueryIfLost
  split
  · split
    · exact h.endQuery hP _ _ _ _
    · exact h
  · exact h

theorem OnPorts.judgeWindow (w : Winch) (h : OnPorts P s) : OnPorts P (judgeWindow w s) := by
  unfold Machine.judgeWindow
  dsimp only
  split
  · exact h.of_cif rfl
  · refine OnPorts.of_cif ?_ ((changes_linkToFc _ _ _ _).cif.trans (changes_linkConditions _ _ _ _).cif)
    exact OnPorts.failQueryIfLost hP w _ (h.of_cif rfl)

theorem OnPorts.settleLink (w : Winch) (h : OnPorts P s) : OnPorts P (settleLink w s) := by
  have timed := h.timeoutQuery hP w
  unfold Machine.settleLink
  dsimp only
  split
  · exact timed.judgeWindow hP w
  · exact timed

theorem OnPorts.missOpen (w : Winch) (h : OnPorts P s) : OnPorts P (missOpen w s) := by
  have settled := h.settleLink hP w
  unfold Machine.missOpen
  dsimp only
  split
  · exact OnPorts.settleLink hP w (settled.of_cif (setLink_cif _ _ _))
  · exact settled

theorem OnPorts.startRound (h : OnPorts P s) : OnPorts P (startRound s) := by
  have missed := OnPorts.foldl (fun t w => OnPorts.missOpen hP w) (handles 4) h
  unfold Machine.startRound
  dsimp only
  generalize (handles 4).foldl _ s = t at missed
  exact OnPorts.of_cif (OnPorts.ite (missed.of_cif (changes_completeRound t).cif) missed) rfl

theorem OnPorts.servoStep (h : OnPorts P s) : OnPorts P (servoStep s) := by
  let s1 : State := { s with fc := { s.fc with servo := s.fc.servo + 5 } }
  let m := stepMotion s1.cs.record s1.fc s1.lm.a
  have started := OnPorts.startRound hP (h.of_cif (u := handTargets (applyMotion m s1.lm.a s1)) rfl)
  refine started.of_cif ?_
  unfold Machine.servoStep
  rw [(changes_settleMaxSpeed _).cif, (reportQueue_frame _ _).cif, (stage8_frame _ _).cif]
  unfold handOnStep
  rw [(changes_updateLowPass _ _).cif, (updatePinned_frame _ _).cif, (changes_sendAllowance _ _).cif]
  rfl

theorem OnPorts.applyAnswer (w : Winch) (a : Option QueryAnswer) (h : OnPorts P s) : OnPorts P (applyAnswer w a s) := by
  unfold Machine.applyAnswer
  split
  · split
    · exact h.endQuery hP _ _ _ _
    · exact h
  · exact h

theorem OnPorts.takeStatus (w : Winch) (f : StateFields) (h : OnPorts P s) : OnPorts P (takeStatus w f s) := by
  refine OnPorts.applyAnswer hP w _ (h.of_cif ?_)
  rw [(changes_applyDriveFault _ _ _ _).cif, tellFc_cif, setLink_cif]

theorem OnPorts.closeByFrame (w : Winch) (t : Target) (f : StateFields) (h : OnPorts P s) : OnPorts P (closeByFrame w t f s) := by
  unfold Machine.closeByFrame
  extract_lets parts l0 src l s1 s2 s3
  have h1 : OnPorts P s1 := h.of_cif rfl
  have h2 : OnPorts P s2 := by
    unfold s2
    split
    · exact h1.of_cif (changes_takeMeasurements _ _ _ _).cif
    · exact h1
  have h3 : OnPorts P s3 := by
    unfold s3
    split
    · exact h2.takeStatus hP w f
    · exact h2
  split
  · exact h3
  · exact h3.of_cif rfl

theorem OnPorts.frameEnds (w : Winch) (f : List Byte) (h : OnPorts P s) : OnPorts P (frameEnds w f s) := by
  have settled := OnPorts.settleLink hP w (h.of_cif (setLink_cif w { s.wlc[w] with rx := [] } s))
  have bad := settled.of_cif (changes_badCheck w _).cif
  unfold Machine.frameEnds
  dsimp only
  split
  · split
    · exact bad
    · unfold judgeFrame
      split
      · split
        · exact settled.closeByFrame hP w _ _
        · exact settled.of_cif (changes_staleSeq w _).cif
      · exact settled.of_cif (changes_staleSeq w _).cif
  · exact bad

theorem OnPorts.linkByte (w : Winch) (b : Byte) (h : OnPorts P s) : OnPorts P (linkByte w b s) := by
  unfold Machine.linkByte
  dsimp only
  split
  · split
    · exact h.of_cif rfl
    · exact h
  · split
    · split
      · exact h.of_cif rfl
      · exact h.frameEnds hP w _
    · exact h.of_cif rfl

theorem OnPorts.start (s : State) : OnPorts P (start s) := by
  unfold Machine.start
  intro p
  split <;> cases p <;> exact hP.resets

theorem OnPorts.driveQueryRequest (p : Port) (winch code : Byte) (args : List Byte) (h : OnPorts P s) :
    OnPorts P (driveQueryRequest p winch code args s) := by
  have settled : OnPorts P (match winchOf winch with | some w => Machine.settleLink w s | none => s) := by
    split
    · exact h.settleLink hP _
    · exact h
  unfold Machine.driveQueryRequest
  dsimp only
  split
  · exact settled.respond hP _ _ _
  · exact OnPorts.withPort p (settled.of_cif (setLink_cif _ _ _)) fun q => hP.step q _ (.of_inProgress q _)

theorem OnPorts.groupWrite {group : Group} {bs : List Byte} (h : OnPorts P s) (hw : groupWrite group bs s = some u) : OnPorts P u := by
  cases group with
  | geometry =>
    obtain ⟨g, -, rfl⟩ := Option.map_eq_some_iff.mp hw
    exact h.of_cif (changes_writeGeometry g s).cif
  | motion =>
    obtain ⟨c, -, rfl⟩ := Option.map_eq_some_iff.mp hw
    exact h.of_cif (changes_writeMotion c s).cif
  | following =>
    obtain ⟨c, -, rfl⟩ := Option.map_eq_some_iff.mp hw
    exact h.of_cif (changes_followingWritten _).cif
  | winch =>
    cases bs with
    | nil => cases hw
    | cons n bs =>
      obtain ⟨w, -, hw⟩ := Option.bind_eq_some_iff.mp hw
      obtain ⟨c, -, rfl⟩ := Option.map_eq_some_iff.mp hw
      exact OnPorts.of_cif (h.settleLink hP w) (changes_winchWritten w _).cif
  | sag =>
    obtain ⟨c, -, rfl⟩ := Option.map_eq_some_iff.mp hw
    exact h.of_cif rfl
  | matrix =>
    obtain ⟨m, -, rfl⟩ := Option.map_eq_some_iff.mp hw
    exact h.of_cif rfl
  | ports =>
    obtain ⟨b, -, rfl⟩ := Option.map_eq_some_iff.mp hw
    exact h.of_cif rfl
  | stored => cases hw

theorem OnPorts.configWrite (group : Byte) (bs : List Byte) (h : OnPorts P s) : OnPorts P (configWrite group bs s).state := by
  unfold Machine.configWrite
  split
  · exact h
  · split
    · exact h
    · split
      · exact h
      · split
        · next hw => exact h.groupWrite hP hw
        · exact h

theorem OnPorts.conditionsRead (p : Port) (clear : Byte) (h : OnPorts P s) : OnPorts P (conditionsRead p clear s).state := by
  unfold Machine.conditionsRead
  split
  · exact h
  · split
    · exact h
    · dsimp only
      split
      · obtain ⟨hp, hd, hs⟩ := onPorts_iff.mp h
        exact onPorts_iff.mpr ⟨hP.clears _ hp, hP.clears _ hd, hP.clears _ hs⟩
      · exact h

/-- Of the requests' owners, WLC with its queries, SU with the counters and CS with its writes alone touch the ports before the
response. -/
theorem OnPorts.ownerAnswer (p : Port) (r : Request) (h : OnPorts P s) : OnPorts P (ownerAnswer p s r).state := by
  have standing (hr : .cif ∉ ownerRegions r) : OnPorts P (Machine.ownerAnswer p s r).state :=
    h.of_cif ((ownerAnswer_changes p s r).cif hr)
  cases r with
  | winchRead winch =>
    show OnPorts P (Machine.winchRead winch s).state
    unfold Machine.winchRead
    split
    · exact h
    · exact h.settleLink hP _
  | conditionsRead clear => exact h.conditionsRead hP p clear
  | configWrite group bs => exact h.configWrite hP group bs
  | driveQuery => exact h
  | _ => exact standing (by simp [ownerRegions])

theorem OnPorts.served (p : Port) (r : Request) (h : OnPorts P s) : OnPorts P (served p s r) := by
  have answered := OnPorts.respond hP p (Machine.ownerAnswer p s r).result (Machine.ownerAnswer p s r).content (h.ownerAnswer hP p r)
  cases r with
  | driveQuery winch code args => exact h.driveQueryRequest hP p winch code args
  | _ => exact answered

theorem OnPorts.receive (p : Port) (bytes : List LineByte) (h : OnPorts P s) : OnPorts P (receive p bytes s) := by
  refine h.withPort p fun q hq => ?_
  induction bytes generalizing q with
  | nil => exact hq
  | cons b bs ih => exact ih _ (hP.arrives _ _ _ _ b hq)

theorem OnPorts.placeNoticeOnAll (n : Notice) (h : OnPorts P s) : OnPorts P { s with cif := placeNoticeOnAll n s.cif } := by
  have placed {q : PortState} : P q → P (q.placeNotice n) := hP.step _ _ (placeNotice_step n q)
  obtain ⟨hp, hd, hs⟩ := onPorts_iff.mp h
  exact onPorts_iff.mpr ⟨placed hp, placed hd, placed hs⟩

/-- Every command keeps a property of each port that all which CIF does to a port keeps. -/
theorem OnPorts.exec {c : Instr} (h : OnPorts P s) (e : exec c s = .next u) : OnPorts P u := by
  cases hc : isRequest c with
  | true =>
    obtain ⟨r, p, rfl⟩ := command_of_isRequest hc
    obtain e' | ⟨r', -, -, e'⟩ := exec_command_cases r p s
    · cases e'.symm.trans e
      exact h
    · cases e'.symm.trans e
      exact h.served hP p r'
  | false =>
    have standing (hr : isRequest c = true ∨ .cif ∉ regionsOf c) : OnPorts P u := by
      obtain hr | hr := hr
      · exact absurd hr (by simp [hc])
      · exact h.of_cif ((exec_changes e).cif hr)
    cases c with
    | requestArrival p bytes => exact h.whileRunning (h.receive hP p bytes) e
    | badFrame p bytes => exact h.whileRunning (h.receive hP p bytes) e
    | gapTimerExpiry p =>
      obtain e' | ⟨due, -, -, e'⟩ := onExpiry_cases (s.cif.port p).gapTimer (Machine.withPort p PortState.discard) s
      · cases e'.symm.trans e
        exact h
      · cases e'.symm.trans e
        exact OnPorts.withPort p (h.of_cif rfl) hP.discards
    | transmitRoomFreed p n => exact h.whileRunning (h.withPort p fun q => hP.step q _ (send_step p _ n q)) e
    | noticeHanded =>
      simp only [Machine.exec, execNoticeHanded] at e
      split at e
      · cases e
        exact h
      · exact h.whileRunning ((h.placeNoticeOnAll hP _).of_cif rfl) e
    | powerOn =>
      cases e
      exact .ite (h.of_cif rfl) (.start hP s)
    | resetReleased =>
      cases e
      exact .ite (.start hP s) (h.of_cif rfl)
    | restartResponseSent =>
      cases e
      exact .ite (.start hP s) h
    | servoStep =>
      obtain e' | ⟨due, -, -, e'⟩ := onExpiry_cases (some s.fc.servo) Machine.servoStep s
      · cases e'.symm.trans e
        exact h
      · cases e'.symm.trans e
        exact OnPorts.servoStep hP (h.of_cif rfl)
    | stateFrame w bytes =>
      exact h.whileRunning (f := fun s => bytes.foldl (fun s b => Machine.linkByte w b s) s)
        (OnPorts.foldl (fun t b ht => ht.linkByte hP w b) bytes h) e
    | windowEnd w =>
      simp only [Machine.exec, execWindowEnd] at e
      split at e
      · exact h.whileRunning (h.settleLink hP w) e
      · cases e
        exact h
    | queryTimeout w =>
      simp only [Machine.exec, execQueryTimeout] at e
      split at e
      · exact h.whileRunning (h.timeoutQuery hP w) e
      · cases e
        exact h
    | _ => exact standing (by simp [isRequest, regionsOf])

/-- Every step keeps such a property. -/
theorem PortInvariant.kept : Kept (OnPorts P) :=
  Kept.of_exec (fun _ _ h => h) (fun _ _ h => h) fun _ _ _ h e => h.exec hP e

end

/-- Settles O13: the bounds and the receiver's table are properties of each port that all which CIF does to a port keeps. -/
theorem portsStaySound : Obligations.PortsStaySound := by
  unfold Obligations.PortsStaySound
  exact ⟨bounded_invariant.kept, receiver_invariant.kept⟩

end Sys2Proof.Machine
end

section
/-! PROOF. What the events of a winch link do to its link, and the settling of O52. -/

namespace Sys2Proof.Machine

set_option Elab.async false

/-! ## What a property needs to be kept by an event

Each of the shapes in which the model writes an event is the effect on a state that differs in part time or in a message taken. -/

section
variable {I : State → Prop} {s u : State}

theorem whileRunning_keeps {f : State → State} (h : I s) (hf : I (f s)) (e : whileRunning f s = .next u) : I u := by
  unfold whileRunning at e
  split at e <;> cases e
  · exact hf
  · exact h

theorem onExpiry_keeps {timer : Option PartTime} {f : State → State} (h : I s) (hpart : ∀ s x, I s → I { s with part := x })
    (hf : ∀ t, I t → I (f t)) (e : onExpiry timer f s = .next u) : I u := by
  obtain he | ⟨due, -, -, he⟩ := onExpiry_cases timer f s
  · rw [he] at e; cases e; exact h
  · rw [he] at e; cases e; exact hf _ (hpart s _ h)

theorem takeFc_keeps {b : Block} {effect : FcMsg → Option (State → State)} (h : I s) (hchan : ∀ s x, I s → I { s with chan := x })
    (hf : ∀ m f, effect m = some f → ∀ t, I t → I (f t)) (e : takeFc b effect s = .next u) : I u := by
  obtain he | ⟨m, rest, f, -, hm, -, he⟩ := takeFc_cases b effect s
  · rw [he] at e; cases e; exact h
  · rw [he] at e; cases e; exact hf m f hm _ (hchan s _ h)

end

/-! ## A link at the end of a window, of a query and of an exchange -/

/-- A link whose query has timed out no longer holds it (R171). -/
def Link.expired (l : Link) : Link := if l.timedOut then { l with query := none } else l

/-- A link after the judgement of its window; a query in flight fails where the link becomes LOST (R164, R165). -/
def Link.judged (wdMin : Nat) (l : Link) : Link :=
  let j := judgement (decide (wdMin ≤ l.windowGood)) l.badWindows l.state
  { l with
    windowClosed := 0, windowGood := 0, badWindows := j.1, state := j.2,
    query := if j.2 = .lost ∧ l.state ≠ .lost then none else l.query }

/-- A link after what its last closure has made due (R164, R171; log 10). -/
def Link.settled (wdMin : Nat) (l : Link) : Link :=
  if 20 ≤ l.expired.windowClosed then l.expired.judged wdMin else l.expired

/-- A link whose open exchange has closed as MISSED, with what is due settled before and after (R155, R160). -/
def Link.missed (wdMin : Nat) (l : Link) : Link :=
  if (l.settled wdMin).exchangeOpen then ((l.settled wdMin).close false).settled wdMin else l.settled wdMin

theorem put_self {α : Type} {n : Nat} (v : Vector α n) (i : Fin n) : put v i v[i] = v := by simp [put]

theorem put_put {α : Type} {n : Nat} (v : Vector α n) (i : Fin n) (x y : α) : put (put v i x) i y = put v i y := by simp [put]

theorem put_getElem {α : Type} {n : Nat} (v : Vector α n) (i j : Fin n) (x : α) : (put v i x)[j] = if j = i then x else v[j] := by
  by_cases h : j = i
  · rw [if_pos h, h, put_same]
  · rw [if_neg h, put_other _ _ _ _ h]

theorem endQuery_wlc (w : Winch) (q : QuerySlot) (r : Result) (c : List Byte) (s : State) :
    (endQuery w q r c s).wlc = put s.wlc w { s.wlc[w] with query := none } := rfl

theorem timeoutQuery_wlc (w : Winch) (s : State) : (timeoutQuery w s).wlc = put s.wlc w s.wlc[w].expired := by
  unfold timeoutQuery Link.expired
  split
  · split
    · rfl
    · rw [put_self]
  · next h =>
    have hnot : s.wlc[w].timedOut = false := by simp only [Link.timedOut, h]
    simp only [hnot, Bool.false_eq_true, if_false, put_self]

theorem failQueryIfLost_wlc (w : Winch) (entered : LinkState) (s : State) :
    (failQueryIfLost w entered s).wlc =
      put s.wlc w { s.wlc[w] with query := if entered = .lost then none else s.wlc[w].query } := by
  unfold failQueryIfLost
  split
  · split
    · rfl
    · rw [put_self]
  · next h =>
    have hq : (if entered = .lost then none else s.wlc[w].query) = s.wlc[w].query := by rw [h, ite_self]
    rw [hq]
    exact (put_self _ w).symm

/-- A judgement that leaves the state as it is fails no query; one that changes it fails the query where it enters LOST. -/
theorem judgeWindow_wlc (w : Winch) (s : State) : (judgeWindow w s).wlc = put s.wlc w (s.wlc[w].judged (winchCfg s w).wdMin) := by
  unfold judgeWindow Link.judged
  dsimp only
  split
  · next h =>
    simp only [setLink, h]
    congr 2
    split
    · next hl => exact absurd hl.1 hl.2
    · rfl
  · next h =>
    rw [(changes_linkToFc _ _ _ _).wlc, (changes_linkConditions _ _ _ _).wlc, failQueryIfLost_wlc]
    simp only [setLink, put_put, put_same]
    congr 2
    split
    · next hl => rw [if_pos ⟨hl, fun e => h (hl.trans e.symm)⟩]
    · next hl => rw [if_neg fun k => hl k.1]

theorem winchCfg_eq {s u : State} (h : u.cs = s.cs) (w : Winch) : winchCfg u w = winchCfg s w := by simp only [winchCfg, h]

theorem settleLink_wlc (w : Winch) (s : State) : (settleLink w s).wlc = put s.wlc w (s.wlc[w].settled (winchCfg s w).wdMin) := by
  have timed : (timeoutQuery w s).wlc[w] = s.wlc[w].expired := by rw [timeoutQuery_wlc, put_same]
  unfold settleLink Link.settled
  dsimp only
  rw [timed]
  split
  · rw [judgeWindow_wlc, timed, timeoutQuery_wlc, put_put, winchCfg_eq (changes_timeoutQuery w s).cs]
  · exact timeoutQuery_wlc w s

theorem missOpen_wlc (w : Winch) (s : State) : (missOpen w s).wlc = put s.wlc w (s.wlc[w].missed (winchCfg s w).wdMin) := by
  have settled : (settleLink w s).wlc[w] = s.wlc[w].settled (winchCfg s w).wdMin := by rw [settleLink_wlc, put_same]
  unfold missOpen Link.missed
  dsimp only
  rw [settled]
  split
  · rw [settleLink_wlc]
    have hcfg (l : Link) : winchCfg (setLink w l (settleLink w s)) w = winchCfg s w := winchCfg_eq (changes_settleLink w s).cs w
    have hwlc (l : Link) : (setLink w l (settleLink w s)).wlc = put s.wlc w l := by simp only [setLink, settleLink_wlc, put_put]
    rw [hcfg, hwlc, put_put, put_same]
  · exact settleLink_wlc w s

theorem foldl_missOpen_wlc (l : List Winch) (hl : l.Nodup) (s : State) (v : Winch) :
    (l.foldl (fun s w => missOpen w s) s).wlc[v] =
      if v ∈ l then s.wlc[v].missed (winchCfg s v).wdMin else s.wlc[v] := by
  induction l generalizing s with
  | nil => simp
  | cons w l ih =>
    obtain ⟨hw, hl⟩ := List.nodup_cons.mp hl
    rw [List.foldl_cons, ih hl, winchCfg_eq (changes_missOpen w s).cs, missOpen_wlc, put_getElem]
    by_cases hv : v = w
    · subst hv
      simp [hw]
    · simp [hv]

/-- A round closes what is open on each link as MISSED, and sends (R155). -/
theorem startRound_wlc (s : State) (v : Winch) : (startRound s).wlc[v] = (s.wlc[v].missed (winchCfg s v).wdMin).send := by
  have missed := foldl_missOpen_wlc (handles 4) (List.nodup_finRange 4) s v
  rw [if_pos (List.mem_finRange v)] at missed
  unfold startRound
  dsimp only
  generalize (handles 4).foldl _ s = t at missed ⊢
  have rounded : (if anyOpen s then completeRound t else t).wlc = t.wlc := by split <;> rfl
  rw [rounded]
  exact (Vector.getElem_map _ _).trans (congrArg Link.send missed)

/-! ## What every event keeps of a link -/

/-- Each counter is in its range (R166). -/
def Counters.bounded (c : Counters) : Prop :=
  c.good ≤ 65535 ∧ c.badCheck ≤ 65535 ∧ c.missed ≤ 65535 ∧ c.staleSeq ≤ 65535 ∧ c.degraded ≤ 65535

/-- A change of a link that touches neither its exchange nor its window: its run and counters stay in range, and a query is the one it
held or a new one. -/
structure LinkStep (l l' : Link) : Prop where
  exchange : l'.seq = l.seq ∧ l'.exchangeOpen = l.exchangeOpen ∧ l'.last = l.last
  window : l'.windowClosed = l.windowClosed ∧ l'.windowGood = l.windowGood ∧ l'.badWindows = l.badWindows ∧ l'.state = l.state
  rejectedRun : l.rejectedRun ≤ 3 → l'.rejectedRun ≤ 3
  query : ∀ q, l'.query = some q → l.query = some q ∨ q.carried = 0
  counters : l.counters.bounded → l'.counters.bounded

/-- A property of one link that all which WLC does to a link keeps. An exchange closes where the window has room, and a TARGET is sent
where the exchange is closed and the query, if there is one, has been carried by fewer than 40. -/
structure LinkInvariant (P : Link → Prop) : Prop where
  step : ∀ l l', LinkStep l l' → P l → P l'
  judges : ∀ n l, P l → P (l.judged n)
  closes : ∀ l b, l.windowClosed < 20 → P l → P (l.close b)
  sends : ∀ l, l.exchangeOpen = false → (∀ q, l.query = some q → q.carried < 40) → P l → P l.send
  resets : P .reset

/-- A property of each of the four links. -/
def OnLinks (P : Link → Prop) (s : State) : Prop := ∀ w : Winch, P s.wlc[w]

theorem LinkStep.of_query {l : Link} {q : Option QuerySlot} (h : ∀ k, q = some k → l.query = some k ∨ k.carried = 0) (n : BitVec 3) :
    LinkStep l { l with query := q, nextQueryId := n } := ⟨⟨rfl, rfl, rfl⟩, ⟨rfl, rfl, rfl, rfl⟩, id, h, id⟩

theorem LinkStep.of_counters {l : Link} {c : Counters} (h : l.counters.bounded → c.bounded) : LinkStep l { l with counters := c } :=
  ⟨⟨rfl, rfl, rfl⟩, ⟨rfl, rfl, rfl, rfl⟩, id, fun _ => .inl, h⟩

theorem LinkStep.expired (l : Link) : LinkStep l l.expired := by
  unfold Link.expired
  split
  · exact .of_query (by simp) _
  · exact ⟨⟨rfl, rfl, rfl⟩, ⟨rfl, rfl, rfl, rfl⟩, id, fun _ => .inl, id⟩

theorem LinkStep.badCheck (l : Link) :
    LinkStep l { l with counters := { l.counters with badCheck := saturate l.counters.badCheck } } :=
  .of_counters fun h => ⟨h.1, saturate_le h.2.1, h.2.2⟩

theorem LinkStep.staleSeq (l : Link) :
    LinkStep l { l with counters := { l.counters with staleSeq := saturate l.counters.staleSeq } } :=
  .of_counters fun h => ⟨h.1, h.2.1, h.2.2.1, saturate_le h.2.2.2.1, h.2.2.2.2⟩

theorem LinkStep.degraded (l : Link) :
    LinkStep l { l with counters := { l.counters with degraded := saturate l.counters.degraded } } :=
  .of_counters fun h => ⟨h.1, h.2.1, h.2.2.1, h.2.2.2.1, saturate_le h.2.2.2.2⟩

/-- After what is due is settled, the window has room. -/
theorem settled_windowClosed_lt (n : Nat) (l : Link) : (l.settled n).windowClosed < 20 := by
  unfold Link.settled
  split
  · exact Nat.zero_lt_succ _
  · omega

/-- After what is due is settled, a query on a closed exchange has been carried by fewer than 40. -/
theorem settled_query {n : Nat} {l : Link} (ho : (l.settled n).exchangeOpen = false) {q : QuerySlot}
    (hq : (l.settled n).query = some q) : q.carried < 40 := by
  have expired (ho : l.exchangeOpen = false) (hq : l.expired.query = some q) : q.carried < 40 := by
    unfold Link.expired at hq
    split at hq
    · cases hq
    · next h =>
      simp only [Link.timedOut, hq, ho] at h
      simpa using h
  have hopen : l.expired.exchangeOpen = l.exchangeOpen := (LinkStep.expired l).exchange.2.1
  unfold Link.settled at ho hq
  split at ho
  · next h20 =>
    rw [if_pos h20] at hq
    simp only [Link.judged] at ho hq
    split at hq
    · cases hq
    · exact expired (hopen ▸ ho) hq
  · next h20 =>
    rw [if_neg h20] at hq
    exact expired (hopen ▸ ho) hq

theorem settled_exchangeOpen (n : Nat) (l : Link) : (l.settled n).exchangeOpen = l.exchangeOpen := by
  have expired := (LinkStep.expired l).exchange.2.1
  unfold Link.settled
  split <;> exact expired

/-- A round finds each exchange closed. -/
theorem missed_exchangeOpen (n : Nat) (l : Link) : (l.missed n).exchangeOpen = false := by
  unfold Link.missed
  split
  · exact settled_exchangeOpen _ _
  · next h => exact eq_false_of_ne_true h

theorem missed_query {n : Nat} {l : Link} {q : QuerySlot} (hq : (l.missed n).query = some q) : q.carried < 40 := by
  have ho := missed_exchangeOpen n l
  unfold Link.missed at ho hq
  split at ho
  · next h => exact settled_query ho (by rwa [if_pos h] at hq)
  · next h => exact settled_query ho (by rwa [if_neg h] at hq)

section
variable {P : Link → Prop} {s u : State}

theorem OnLinks.of_wlc (h : OnLinks P s) (e : u.wlc = s.wlc) : OnLinks P u := fun w => e ▸ h w

theorem OnLinks.of_put {w : Winch} {l : Link} (h : OnLinks P s) (hl : P l) (e : u.wlc = put s.wlc w l) : OnLinks P u := by
  intro v
  rw [e, put_getElem]
  split
  · exact hl
  · exact h v

theorem OnLinks.setLink {w : Winch} {l : Link} (h : OnLinks P s) (hl : P l) : OnLinks P (setLink w l s) := h.of_put hl rfl

theorem OnLinks.foldl {α : Type} {f : State → α → State} (hf : ∀ t a, OnLinks P t → OnLinks P (f t a)) (l : List α)
    (h : OnLinks P s) : OnLinks P (l.foldl f s) := by
  induction l generalizing s with
  | nil => exact h
  | cons a l ih => exact ih (hf s a h)

theorem OnLinks.ite {t : State} {c : Prop} [Decidable c] (h : OnLinks P s) (k : OnLinks P t) : OnLinks P (if c then s else t) := by
  split <;> assumption

theorem OnLinks.whileRunning {f : State → State} (h : OnLinks P s) (hf : OnLinks P (f s)) (e : whileRunning f s = .next u) :
    OnLinks P u := by
  cases e
  exact .ite hf h

variable (hP : LinkInvariant P)
include hP

/-- The operations of flight hand the links new held targets alone. -/
theorem OnLinks.flight (h : OnLinks P s) (hf : FlightFrame s u) : OnLinks P u := by
  intro w
  rw [hf.wlc w]
  exact hP.step s.wlc[w] _ ⟨⟨rfl, rfl, rfl⟩, ⟨rfl, rfl, rfl, rfl⟩, id, fun _ => .inl, id⟩ (h w)

theorem settled_keeps {l : Link} (n : Nat) (h : P l) : P (l.settled n) := by
  have expired := hP.step _ _ (LinkStep.expired l) h
  unfold Link.settled
  split
  · exact hP.judges n _ expired
  · exact expired

theorem missed_keeps {l : Link} (n : Nat) (h : P l) : P (l.missed n) := by
  have settled := settled_keeps hP n h
  unfold Link.missed
  split
  · exact settled_keeps hP n (hP.closes _ _ (settled_windowClosed_lt n l) settled)
  · exact settled

theorem OnLinks.settleLink (w : Winch) (h : OnLinks P s) : OnLinks P (settleLink w s) :=
  h.of_put (settled_keeps hP _ (h w)) (settleLink_wlc w s)

theorem OnLinks.timeoutQuery (w : Winch) (h : OnLinks P s) : OnLinks P (timeoutQuery w s) :=
  h.of_put (hP.step _ _ (LinkStep.expired _) (h w)) (timeoutQuery_wlc w s)

theorem OnLinks.startRound (h : OnLinks P s) : OnLinks P (startRound s) := by
  intro v
  rw [startRound_wlc]
  exact hP.sends _ (missed_exchangeOpen _ _) (fun _ => missed_query) (missed_keeps hP _ (h v))

theorem OnLinks.servoStep (h : OnLinks P s) : OnLinks P (servoStep s) := by
  let s1 : State := { s with fc := { s.fc with servo := s.fc.servo + 5 } }
  let m := stepMotion s1.cs.record s1.fc s1.lm.a
  have moved : OnLinks P (applyMotion m s1.lm.a s1) := h.of_wlc rfl
  have started := OnLinks.startRound hP (OnLinks.flight hP moved (handTargets_frame _))
  have handed : OnLinks P (handOnStep m s1.lm.a (applyMotion m s1.lm.a s1)) := by
    refine OnLinks.of_wlc ?_ (changes_updateLowPass _ _).wlc
    refine OnLinks.flight hP ?_ (updatePinned_frame _ _)
    exact OnLinks.of_wlc (started.of_wlc rfl) (changes_sendAllowance _ _).wlc
  unfold Machine.servoStep
  refine OnLinks.of_wlc ?_ (changes_settleMaxSpeed _).wlc
  exact OnLinks.flight hP handed ((stage8_frame m _).trans (reportQueue_frame _ _))

theorem OnLinks.takeMeasurements (w : Winch) (m : Measurement) (a : Int × Command) (h : OnLinks P s) :
    OnLinks P (takeMeasurements w m a s) := by
  have stored := h.setLink (w := w) (l := { s.wlc[w] with meas := some m })
    (hP.step s.wlc[w] _ ⟨⟨rfl, rfl, rfl⟩, ⟨rfl, rfl, rfl, rfl⟩, id, fun _ => .inl, id⟩ (h w))
  exact OnLinks.of_wlc (stored.of_wlc rfl) (changes_takeSet w m a _).wlc

theorem OnLinks.applyDriveFault (w : Winch) (c : Completion) (d : DriveStatus) (h : OnLinks P s) :
    OnLinks P (applyDriveFault w c d s) := by
  have faulted (b : Bool) : OnLinks P (Machine.setLink w { s.wlc[w] with driveFault := b } s) :=
    h.setLink (hP.step s.wlc[w] _ ⟨⟨rfl, rfl, rfl⟩, ⟨rfl, rfl, rfl, rfl⟩, id, fun _ => .inl, id⟩ (h w))
  unfold Machine.applyDriveFault
  exact .ite ((faulted true).of_wlc rfl) (.ite ((faulted false).of_wlc rfl) h)

theorem OnLinks.applyAnswer (w : Winch) (a : Option QueryAnswer) (h : OnLinks P s) : OnLinks P (applyAnswer w a s) := by
  unfold Machine.applyAnswer
  split
  · split
    · exact h.of_put (hP.step _ _ (.of_query (by simp) _) (h w)) (endQuery_wlc _ _ _ _ _)
    · exact h
  · exact h

theorem OnLinks.takeStatus (w : Winch) (f : StateFields) (h : OnLinks P s) : OnLinks P (takeStatus w f s) := by
  have run : runAfter s.wlc[w].rejectedRun f.completion ≤ 3 := by
    unfold runAfter
    split
    · exact Nat.min_le_left _ _
    · exact Nat.zero_le _
  have stored := h.setLink (w := w)
    (l := { s.wlc[w] with
      status := some (f.completion, f.drive), rejectedRun := runAfter s.wlc[w].rejectedRun f.completion })
    (hP.step s.wlc[w] _ ⟨⟨rfl, rfl, rfl⟩, ⟨rfl, rfl, rfl, rfl⟩, fun _ => run, fun _ => .inl, id⟩ (h w))
  exact OnLinks.applyAnswer hP w _ (OnLinks.applyDriveFault hP w _ _ (stored.of_wlc rfl))

theorem OnLinks.closeByFrame (w : Winch) (t : Target) (f : StateFields) (hroom : s.wlc[w].windowClosed < 20) (h : OnLinks P s) :
    OnLinks P (closeByFrame w t f s) := by
  unfold Machine.closeByFrame
  extract_lets parts l0 src l s1 s2 s3
  have hl0 : P l0 := hP.closes _ _ hroom (h w)
  have hl : P l := by
    unfold l
    split
    · exact hP.step _ _ (.degraded l0) hl0
    · exact hl0
  have h1 : OnLinks P s1 := h.setLink hl
  have h2 : OnLinks P s2 := .ite (h1.takeMeasurements hP w _ _) h1
  have h3 : OnLinks P s3 := .ite (h2.takeStatus hP w f) h2
  exact .ite h3 (h3.of_wlc rfl)

theorem OnLinks.frameEnds (w : Winch) (f : List Byte) (h : OnLinks P s) : OnLinks P (frameEnds w f s) := by
  have emptied : OnLinks P (Machine.setLink w { s.wlc[w] with rx := [] } s) :=
    h.setLink (hP.step s.wlc[w] _ ⟨⟨rfl, rfl, rfl⟩, ⟨rfl, rfl, rfl, rfl⟩, id, fun _ => .inl, id⟩ (h w))
  have settled := emptied.settleLink hP w
  have hroom : (Machine.settleLink w (Machine.setLink w { s.wlc[w] with rx := [] } s)).wlc[w].windowClosed < 20 := by
    rw [settleLink_wlc, put_same]
    exact settled_windowClosed_lt _ _
  unfold Machine.frameEnds
  dsimp only
  generalize Machine.settleLink w _ = t at settled hroom ⊢
  have bad : OnLinks P (badCheck w t) := settled.setLink (hP.step _ _ (.badCheck _) (settled w))
  have stale : OnLinks P (staleSeq w t) := settled.setLink (hP.step _ _ (.staleSeq _) (settled w))
  split
  · refine .ite bad ?_
    unfold judgeFrame
    split
    · exact .ite (settled.closeByFrame hP w _ _ hroom) stale
    · exact stale
  · exact bad

theorem OnLinks.linkByte (w : Winch) (b : Byte) (h : OnLinks P s) : OnLinks P (linkByte w b s) := by
  have stored (rx : List Byte) : OnLinks P (Machine.setLink w { s.wlc[w] with rx := rx } s) :=
    h.setLink (hP.step s.wlc[w] _ ⟨⟨rfl, rfl, rfl⟩, ⟨rfl, rfl, rfl, rfl⟩, id, fun _ => .inl, id⟩ (h w))
  unfold Machine.linkByte
  dsimp only
  refine .ite (.ite (stored _) h) ?_
  split
  · exact .ite (stored _) (h.frameEnds hP w _)
  · exact stored _

theorem OnLinks.start (s : State) : OnLinks P (start s) := by
  intro w
  unfold Machine.start
  split <;> simpa [startWith] using hP.resets

theorem OnLinks.driveQueryRequest (p : Port) (winch code : Byte) (args : List Byte) (h : OnLinks P s) :
    OnLinks P (driveQueryRequest p winch code args s) := by
  have settled : OnLinks P (match winchOf winch with | some w => Machine.settleLink w s | none => s) := by
    split
    · exact h.settleLink hP _
    · exact h
  unfold Machine.driveQueryRequest
  dsimp only
  split
  · exact settled.of_wlc rfl
  · next w _ =>
    refine OnLinks.of_wlc (settled.setLink (hP.step _ _ ?_ (settled w))) rfl
    exact .of_query (fun k hk => .inr (by cases hk; rfl)) _

theorem OnLinks.groupWrite {group : Group} {bs : List Byte} (h : OnLinks P s) (hw : groupWrite group bs s = some u) : OnLinks P u := by
  cases group with
  | geometry =>
    obtain ⟨g, -, rfl⟩ := Option.map_eq_some_iff.mp hw
    exact h.of_wlc (changes_writeGeometry g s).wlc
  | motion =>
    obtain ⟨c, -, rfl⟩ := Option.map_eq_some_iff.mp hw
    exact h.of_wlc (changes_writeMotion c s).wlc
  | following =>
    obtain ⟨c, -, rfl⟩ := Option.map_eq_some_iff.mp hw
    exact h.of_wlc (changes_followingWritten _).wlc
  | winch =>
    cases bs with
    | nil => cases hw
    | cons n bs =>
      obtain ⟨w, -, hw⟩ := Option.bind_eq_some_iff.mp hw
      obtain ⟨c, -, rfl⟩ := Option.map_eq_some_iff.mp hw
      exact OnLinks.of_wlc (h.settleLink hP w) (changes_winchWritten w _).wlc
  | sag =>
    obtain ⟨c, -, rfl⟩ := Option.map_eq_some_iff.mp hw
    exact h.of_wlc rfl
  | matrix =>
    obtain ⟨m, -, rfl⟩ := Option.map_eq_some_iff.mp hw
    exact h.of_wlc rfl
  | ports =>
    obtain ⟨b, -, rfl⟩ := Option.map_eq_some_iff.mp hw
    exact h.of_wlc rfl
  | stored => cases hw

end

/-! ## What flight does to the links and the cues -/

/-- Of the links nothing differs but their held targets. -/
def OnlyTargets (s u : State) : Prop :=
  ∀ w : Winch, u.wlc[w] = { s.wlc[w] with heldLength := u.wlc[w].heldLength, heldCommand := u.wlc[w].heldCommand }

/-- What the operations of flight and of the shot queue do: of the links nothing differs but their held targets, and no cue is stored. -/
structure Flown (s u : State) : Prop where
  targets : OnlyTargets s u
  cues : ∀ h c, u.ct.cue h = some c → s.ct.cue h = some c

section
variable {s t u : State}

theorem Flown.of_eq (h : u.wlc = s.wlc) (k : u.ct.slots = s.ct.slots) : Flown s u :=
  ⟨fun w => by rw [h], fun j c e => by simpa only [Ct.cue, k] using e⟩

theorem Flown.of_dropped {h : CueHandle} {gen : Generation} (hw : u.wlc = s.wlc)
    (hs : u.ct.slots = put s.ct.slots h { generation := gen, cue := none }) : Flown s u := by
  refine ⟨fun w => by rw [hw], fun j c e => ?_⟩
  simp only [Ct.cue, hs, put_getElem] at e
  split at e
  · cases e
  · exact e

theorem Flown.refl (s : State) : Flown s s := .of_eq rfl rfl

theorem Flown.trans (h : Flown s t) (k : Flown t u) : Flown s u :=
  ⟨fun w => by rw [k.targets w, h.targets w], fun j c e => h.cues j c (k.cues j c e)⟩

theorem Flown.ite {c : Prop} [Decidable c] (h : Flown s t) (k : Flown s u) : Flown s (if c then t else u) := by
  split <;> assumption

theorem FlightFrame.flown (h : FlightFrame s u) : Flown s u := ⟨h.wlc, fun j c e => by simpa only [Ct.cue, h.slots] using e⟩

/-- An operation of flight on a state with the same links and cues. -/
theorem FlightFrame.flown_of (h : FlightFrame t u) (e : t.wlc = s.wlc) (k : t.ct.slots = s.ct.slots) : Flown s u :=
  (Flown.of_eq e k).trans h.flown

/-- What an event of flight may change, from its regions and the links. -/
theorem onlyFlight_iff : OnlyFlight s u ↔ ChangesOnly [.ct, .fc, .wlc, .chan] s u ∧ OnlyTargets s u := by
  constructor
  case mp =>
    intro h
    refine ⟨?_, h.2⟩
    rw [h.1]
    exact (((changes_ct s u.ct).trans (changes_fc _ u.fc)).trans (changes_wlc _ u.wlc)).trans (changes_chan _ u.chan)
  case mpr =>
    intro ⟨h, k⟩
    have hpart := h.part; have hcif := h.cif; have hzt := h.zt; have hlm := h.lm; have hsu := h.su; have hcs := h.cs
    have hpending := h.1
    refine ⟨?_, k⟩
    obtain ⟨part, cif, zt, ct, fc, wlc, lm, su, cs, chan, pending⟩ := u
    simp_all

end

theorem raiseCause_flown (c : Cause) (s : State) : Flown s (raiseCause c s) := by
  unfold raiseCause
  refine .ite (.of_eq rfl rfl) (.ite (.of_eq rfl rfl) ?_)
  exact ((enterStopped_frame _).trans (reportQueue_frame _ _)).flown_of rfl rfl

theorem takeDriveStatus_flown (w : Winch) (d : DriveStatus) (s : State) : Flown s (takeDriveStatus w d s) := by
  refine .trans ?_ (reportQueue_frame _ _).flown
  exact .ite ((testLaunch_frame _).flown_of rfl rfl) ((testSettle_frame _).flown_of rfl rfl)

theorem takeHot_flown (b : Bool) (s : State) : Flown s (takeHot b s) :=
  .ite (((returnDemand_frame _).trans (reportQueue_frame _ _)).flown_of rfl rfl) (.of_eq rfl rfl)

theorem jogIn_flown {d : Vec3} {s u : State} (h : jogIn d s = some u) : Flown s u := by
  unfold jogIn at h
  split at h
  · cases h
    exact .ite (.of_eq rfl rfl) ((setMode_frame _ _).flown_of rfl rfl)
  · cases h
    exact .of_eq rfl rfl
  · cases h
    exact (closeMode_frame s).flown.trans ((setMode_frame _ _).flown_of rfl rfl)
  all_goals cases h

theorem carryOutResume_flown (q : Vec3) (s : State) : Flown s (carryOutResume q s) := by
  have cleared (f : Fc) : Flown s (clearOverflow { s with fc := f }) :=
    .of_eq (changes_clearOverflow _).wlc (congrArg Ct.slots (changes_clearOverflow _).ct)
  exact .ite ((cleared _).trans (enterParked_frame _).flown) ((cleared _).trans (enterLaunching_frame _).flown)

theorem cueDrop_flown (h : CueHandle) (s : State) : Flown s (cueDrop h s).state := by
  unfold cueDrop
  refine .trans ?_ (reportQueue_frame _ _).flown
  generalize hs1 : notify _ _ = s1
  have h1 : Flown s s1 := hs1 ▸ .of_dropped rfl rfl
  generalize hs2 : ite (s.ct.runs h = true) _ _ = s2
  have h2 : Flown s s2 := hs2 ▸ .ite (h1.trans (enterHold_frame _ s1).flown) h1
  exact .ite (h2.trans (startTest_frame s2).flown) h2

theorem carryOutAdd_flown (h : CueHandle) (k : StartKind) (s : State) : Flown s (carryOutAdd h k s).state := by
  refine .trans ?_ (reportQueue_frame _ _).flown
  exact .ite ((startTest_frame _).flown_of rfl rfl) (.of_eq rfl rfl)

theorem takeHead_flown (e : QueueEntry) (s : State) : Flown s (takeHead e s).state :=
  ((runStart_frame _ _).trans (notify_frame _ _)).flown_of rfl rfl

theorem skipHead_flown (e : QueueEntry) (rest : List QueueEntry) (s : State) : Flown s (skipHead e rest s).state := by
  refine .trans ?_ ((startTest_frame _).trans (reportQueue_frame _ _)).flown
  exact .ite ((enterHold_frame _ _).flown_of rfl rfl) (.of_eq rfl rfl)

theorem queueClear_flown (s : State) : Flown s (queueClear s).state := by
  have ended (b : Bool) : Flown s
      (if b then cancelRun { s with ct := { s.ct with queue := [], halted := false, dwell := none } }
        else { s with ct := { s.ct with queue := [], halted := false, dwell := none } }) :=
    .ite ((enterHold_frame _ _).flown_of rfl rfl) (.of_eq rfl rfl)
  exact .ite (ended _) ((ended _).trans (notify_frame _ _).flown)

theorem Flown.orRefuse {c : Prop} [Decidable c] {r : Result} {s : State} {a : Answer} (h : Flown s a.state) :
    Flown s (if c then refuse r s else a).state := by
  split
  · exact .refl s
  · exact h

theorem onCue_flown {s : State} {handle gen : Byte} {act : CueHandle → Cue → Answer} (h : ∀ h c, Flown s (act h c).state) :
    Flown s (onCue handle gen s act).state := by
  unfold onCue
  split
  · split
    · exact .refl s
    · split
      · exact h _ _
      · exact .refl s
  · exact .refl s

/-- The requests of flight and of the shot queue, which change no link but its held target. -/
def flightRequest : Request → Bool
  | .cueDrop _ _ | .queueAdd _ _ _ | .queueTake | .queueSkip | .queueClear | .launch | .jog _ | .hold | .returnDock | .stop | .resume => true
  | _ => false

theorem ownerAnswer_flown {r : Request} (hr : flightRequest r = true) (p : Port) (s : State) :
    Flown s (ownerAnswer p s r).state := by
  cases r with
  | cueDrop =>
    refine onCue_flown fun h c => ?_
    split
    · exact cueDrop_flown h s
    · exact .refl s
  | queueAdd =>
    simp only [ownerAnswer, queueAdd]
    refine .orRefuse ?_
    split
    · exact .refl s
    · exact onCue_flown fun h _ => .orRefuse (carryOutAdd_flown h _ s)
  | queueTake =>
    simp only [ownerAnswer, queueTake]
    refine .orRefuse ?_
    split
    · exact .refl s
    · exact .orRefuse (takeHead_flown _ s)
  | queueSkip =>
    refine .orRefuse ?_
    split
    · exact .refl s
    · exact skipHead_flown _ _ s
  | queueClear => exact .orRefuse (queueClear_flown s)
  | launch =>
    simp only [ownerAnswer]
    cases launchCheck s with
    | none => exact ((enterLaunching_frame s).trans (reportQueue_frame _ _)).flown
    | some r => exact .refl s
  | jog =>
    simp only [ownerAnswer, jogRequest]
    refine .orRefuse ?_
    split
    · exact .refl s
    · next h => exact (jogIn_flown h).trans (reportQueue_frame _ _).flown
  | hold =>
    simp only [ownerAnswer, holdRequest]
    refine .orRefuse ?_
    split
    · exact .refl s
    · next h => exact ((holdIn_frame h).trans (reportQueue_frame _ _)).flown
  | returnDock => exact ((returnDemand_frame s).trans (reportQueue_frame _ _)).flown
  | stop => exact raiseCause_flown .stop s
  | resume =>
    simp only [ownerAnswer, resumeRequest]
    split
    · exact .refl s
    · exact (carryOutResume_flown _ s).trans (reportQueue_frame _ _).flown
  | _ => cases hr

/-- The events of flight and of the dwell timer, which change no link but its held target. -/
def flightEvent : Instr → Bool
  | .estopAsserted | .dwellTimerExpiry | .launchTimerExpiry | .settleTimerExpiry | .changeReportFc | .zoneSummary | .stopCauseRaise _
  | .driveStatus | .hotFlag => true
  | _ => false

theorem exec_flown {c : Instr} {s u : State} (hc : flightEvent c = true) (e : exec c s = .next u) : Flown s u := by
  have refl := Flown.refl s
  have part : ∀ t x, Flown s t → Flown s { t with part := x } := fun t _ k => k.trans (.of_eq rfl rfl)
  have chan : ∀ t x, Flown s t → Flown s { t with chan := x } := fun t _ k => k.trans (.of_eq rfl rfl)
  have raised (c : Cause) (f : Fc) (t : State) : Flown t (raiseCause c { t with fc := f }) :=
    Flown.trans (t := { t with fc := f }) (.of_eq rfl rfl) (raiseCause_flown _ _)
  cases c
  all_goals simp only [exec] at e
  case estopAsserted =>
    cases e
    refine .ite ?_ (.of_eq rfl rfl)
    refine (part s { s.part with estopLine := true } refl).trans ((raiseCause_flown .estop _).trans ?_)
    exact .of_eq (changes_raiseCondition _ _).wlc (congrArg Ct.slots (changes_raiseCondition _ _).ct)
  case dwellTimerExpiry =>
    refine onExpiry_keeps refl part (fun t k => k.trans ?_) e
    exact ((startTest_frame _).trans (reportQueue_frame _ _)).flown_of rfl rfl
  case launchTimerExpiry => exact onExpiry_keeps refl part (fun t k => k.trans (raised _ _ t)) e
  case settleTimerExpiry => exact onExpiry_keeps refl part (fun t k => k.trans (raised _ _ t)) e
  case changeReportFc =>
    refine takeFc_keeps refl chan (fun m f hf t k => k.trans ?_) e
    split at hf
    · cases hf
      exact (takeChangeReport_frame _ t).flown_of rfl rfl
    · cases hf
  case zoneSummary =>
    refine takeFc_keeps refl chan (fun m f hf t k => k.trans ?_) e
    split at hf
    · cases hf
      exact (takeSummary_frame _ _ t).flown_of rfl rfl
    · cases hf
  case stopCauseRaise b =>
    refine takeFc_keeps refl chan (fun m f hf t k => k.trans ?_) e
    split at hf
    · cases hf; exact raiseCause_flown _ t
    · cases hf
  case driveStatus =>
    refine takeFc_keeps refl chan (fun m f hf t k => k.trans ?_) e
    split at hf
    · cases hf; exact takeDriveStatus_flown _ _ t
    · cases hf
  case hotFlag =>
    refine takeFc_keeps refl chan (fun m f hf t k => k.trans ?_) e
    split at hf
    · cases hf; exact takeHot_flown _ t
    · cases hf
  all_goals cases hc

/-! ## Every command keeps what the events of a link keep -/

section
variable {P : Link → Prop} (hP : LinkInvariant P)
include hP

theorem OnLinks.of_flown {s u : State} (h : OnLinks P s) (k : Flown s u) : OnLinks P u := by
  intro w
  rw [k.targets w]
  exact hP.step s.wlc[w] _ ⟨⟨rfl, rfl, rfl⟩, ⟨rfl, rfl, rfl, rfl⟩, id, fun _ => .inl, id⟩ (h w)

theorem OnLinks.ownerAnswer {s : State} (h : OnLinks P s) (p : Port) (r : Request) : OnLinks P (ownerAnswer p s r).state := by
  have changes := ownerAnswer_changes p s r
  cases hf : flightRequest r with
  | true => exact OnLinks.of_flown hP h (ownerAnswer_flown hf p s)
  | false =>
    cases r with
    | winchRead winch =>
      simp only [Machine.ownerAnswer, winchRead]
      split
      · exact h
      · exact h.settleLink hP _
    | counters winch clear =>
      simp only [Machine.ownerAnswer, countersRequest]
      split
      · next w c _ _ =>
        refine .ite (h.setLink (hP.step s.wlc[w] _ (.of_counters fun _ => ?_) (h w))) h
        simp [Counters.bounded]
      · exact h
    | configWrite group bs =>
      simp only [Machine.ownerAnswer, configWrite]
      split
      · exact h
      · split
        · exact h
        · split
          · exact h
          · split
            · next hw => exact h.groupWrite hP hw
            · exact h
    | driveQuery => exact h
    | cueDrop | queueAdd | queueTake | queueSkip | queueClear | launch | jog | hold | returnDock | stop | resume => cases hf
    | _ => exact h.of_wlc (changes.wlc (by simp [ownerRegions]))

theorem OnLinks.served {s : State} (h : OnLinks P s) (p : Port) (r : Request) : OnLinks P (served p s r) := by
  have answered := h.ownerAnswer hP p r
  cases r with
  | driveQuery winch code args => exact h.driveQueryRequest hP p winch code args
  | _ => exact answered.of_wlc rfl

theorem OnLinks.event {c : Instr} {s u : State} (hc : isRequest c = false) (h : OnLinks P s) (e : exec c s = .next u) : OnLinks P u := by
  have part : ∀ (s : State) x, OnLinks P s → OnLinks P { s with part := x } := fun _ _ k => k.of_wlc rfl
  have changes := exec_changes e
  cases hf : flightEvent c with
  | true => exact OnLinks.of_flown hP h (exec_flown hf e)
  | false =>
    cases c
    all_goals simp only [exec, regionsOf] at e changes
    case powerOn =>
      cases e
      exact .ite (h.of_wlc rfl) (.start hP s)
    case resetReleased =>
      cases e
      exact .ite (.start hP s) (h.of_wlc rfl)
    case restartResponseSent =>
      cases e
      exact .ite (.start hP s) h
    case servoStep => exact onExpiry_keeps h part (fun t k => k.servoStep hP) e
    case stateFrame w bs => exact whileRunning_keeps h (OnLinks.foldl (fun t b k => k.linkByte hP w b) bs h) e
    case stateByteGap w =>
      refine whileRunning_keeps h ?_ e
      refine .ite h ?_
      have emptied : OnLinks P (Machine.setLink w { s.wlc[w] with rx := [] } s) :=
        h.setLink (hP.step s.wlc[w] _ ⟨⟨rfl, rfl, rfl⟩, ⟨rfl, rfl, rfl, rfl⟩, id, fun _ => .inl, id⟩ (h w))
      exact emptied.setLink (hP.step _ _ (.badCheck _) (emptied w))
    case windowEnd w =>
      simp only [execWindowEnd] at e
      split at e
      · exact whileRunning_keeps h (h.settleLink hP w) e
      · cases e; exact h
    case queryTimeout w =>
      simp only [execQueryTimeout] at e
      split at e
      · exact whileRunning_keeps h (h.timeoutQuery hP w) e
      · cases e; exact h
    case estopReleased =>
      cases e
      exact .ite (OnLinks.of_wlc (h.of_wlc rfl) (changes_clearCondition _ _).wlc) (h.of_wlc rfl)
    all_goals first
      | (cases hc; done)
      | (cases hf; done)
      | exact h.of_wlc changes.wlc

theorem OnLinks.exec {c : Instr} {s u : State} (h : OnLinks P s) (e : exec c s = .next u) : OnLinks P u := by
  cases hc : isRequest c with
  | false => exact h.event hP hc e
  | true =>
    obtain ⟨r, p, rfl⟩ := command_of_isRequest hc
    obtain k | ⟨r', -, -, k⟩ := exec_command_cases r p s
    · rw [k] at e; cases e; exact h
    · rw [k] at e; cases e; exact h.served hP p r'

theorem LinkInvariant.kept : Kept (OnLinks P) :=
  Kept.of_exec (fun _ _ h => h.of_wlc rfl) (fun _ _ h => h.of_wlc rfl) (fun _ _ _ h e => h.exec hP e)

end

/-! ## The counts of a link, and its open exchange -/

/-- The counts of one link in their ranges (R163, R164, R166, R171). -/
def Link.inBounds (l : Link) : Prop :=
  linkStateFits l ∧ l.windowClosed ≤ 20 ∧ l.windowGood ≤ l.windowClosed ∧ l.rejectedRun ≤ 3 ∧
  (∀ q, l.query = some q → q.carried ≤ 40) ∧ l.counters.bounded

/-- An open exchange waits for the last TARGET (R155, R156). -/
def Link.awaitsLast (l : Link) : Prop := l.exchangeOpen = true → ∃ t, l.last = some t ∧ t.seq = l.seq

theorem linksWithinBounds_iff (s : State) : LinksWithinBounds s ↔ OnLinks Link.inBounds s := Iff.rfl

/-- The table of R164 gives a count that goes with its state. -/
theorem judged_stateFits {n : Nat} {l : Link} (h : linkStateFits l) : linkStateFits (l.judged n) := by
  unfold linkStateFits at h ⊢
  simp only [Link.judged, judgement]
  cases hs : l.state
  all_goals
    rw [hs] at h
    repeat' split
    all_goals (simp_all <;> omega)

theorem close_bounded {l : Link} {b : Bool} (h : l.counters.bounded) : (l.close b).counters.bounded := by
  obtain ⟨hgood, hbad, hmissed, hrest⟩ := h
  cases b
  · exact ⟨hgood, hbad, saturate_le hmissed, hrest⟩
  · exact ⟨saturate_le hgood, hbad, hmissed, hrest⟩

theorem inBounds_invariant : LinkInvariant Link.inBounds where
  step l l' k h := by
    obtain ⟨hfits, hclosed, hgood, hrun, hcarried, hcounters⟩ := h
    obtain ⟨kclosed, kgood, kbad, kstate⟩ := k.window
    refine ⟨?_, by rwa [kclosed], by rwa [kgood, kclosed], k.rejectedRun hrun, fun q hq => ?_, k.counters hcounters⟩
    · unfold linkStateFits at hfits ⊢
      rwa [kstate, kbad]
    · obtain hq | hq := k.query q hq
      · exact hcarried q hq
      · omega
  judges n l h := by
    obtain ⟨hfits, -, -, hrun, hcarried, hcounters⟩ := h
    refine ⟨judged_stateFits hfits, Nat.zero_le _, Nat.le_refl 0, hrun, fun q hq => hcarried q ?_, hcounters⟩
    simp only [Link.judged] at hq
    split at hq
    · cases hq
    · exact hq
  closes l b hroom h := by
    obtain ⟨hfits, -, hgood, hrun, hcarried, hcounters⟩ := h
    refine ⟨hfits, hroom, ?_, hrun, hcarried, close_bounded hcounters⟩
    show l.windowGood + (if b then 1 else 0) ≤ l.windowClosed + 1
    split <;> omega
  sends l _ hroom h := by
    obtain ⟨hfits, hclosed, hgood, hrun, -, hcounters⟩ := h
    refine ⟨hfits, hclosed, hgood, hrun, fun q hq => ?_, hcounters⟩
    obtain ⟨q', hq', rfl⟩ := Option.map_eq_some_iff.mp hq
    exact hroom q' hq'
  resets := ⟨rfl, Nat.zero_le _, Nat.le_refl _, Nat.zero_le _, fun q hq => (by cases hq), by simp [Counters.bounded, Link.reset]⟩

theorem awaitsLast_invariant : LinkInvariant Link.awaitsLast where
  step l l' k h hopen := by
    obtain ⟨kseq, kopen, klast⟩ := k.exchange
    rw [kseq, klast]
    exact h (kopen ▸ hopen)
  judges n l h := h
  closes l b _ _ hopen := by cases hopen
  sends l _ _ _ _ := ⟨_, rfl, rfl⟩
  resets hopen := by cases hopen

/-- Settles O52: both are properties of a link that every event of a link keeps. -/
theorem linksStaySound : Obligations.LinksStaySound := by
  unfold Obligations.LinksStaySound
  exact ⟨inBounds_invariant.kept, awaitsLast_invariant.kept⟩

end Sys2Proof.Machine
end

section
/-! PROOF. What the operations of flight keep of the mode's records and of the shot queue. -/

namespace Sys2Proof.Machine

set_option Elab.async false

/-! ## The records of flight -/

/-- What FC holds for its mode: the records, the demand, the timers, the stop causes and V. -/
structure Records where
  run : Option RunRecord
  evict : Option EvictRecord
  legGoal : Option Vec3
  jogDemand : Vec3
  deadman : Option PartTime
  launchTimer : Option PartTime
  settleTimer : Option PartTime
  causes : List CauseEntry
  v : Vec3

/-- The shot queue: its entries, its halted flag, and which names stand in the cue table. -/
structure Shots where
  queue : List QueueEntry
  halted : Bool
  stands : CueHandle → Generation → Prop

def Fc.records (f : Fc) : Records :=
  ⟨f.run, f.evict, f.legGoal, f.jogDemand, f.deadman, f.launchTimer, f.settleTimer, f.causes, f.v⟩

def Ct.shots (t : Ct) : Shots := ⟨t.queue, t.halted, fun h gen => (t.cue h).isSome = true ∧ t.slots[h].generation = gen⟩

/-- The records after an entry to HOLD (R127). -/
def Records.cleared (r : Records) : Records :=
  { r with run := none, evict := none, legGoal := none, jogDemand := .zero, deadman := none }

/-- The queue with a status at its head and the queue halted (R97). -/
def Shots.halt (status : EntryStatus) (q : Shots) : Shots := { q with queue := setHead status q.queue, halted := true }

/-- A cause that the set does not hold (R144). -/
def Records.lacks (r : Records) (c : Cause) : Prop := ∀ e ∈ r.causes, e.cause ≠ c

/-- The records with a cause that is entered (R143, R144). -/
def Records.enter (r : Records) (c : Cause) : Records := { r with causes := r.causes ++ [{ cause := c, live := c.enteredLive }] }

/-- The records at the entry to STOPPED after the mode left is closed (R145). -/
def Records.stopped (r : Records) (launchTimer settleTimer : Option PartTime) (c : Cause) : Records :=
  { r with
    v := .zero, evict := none, launchTimer := launchTimer, settleTimer := settleTimer,
    causes := r.causes ++ [{ cause := c, live := c.enteredLive }] }

/-- The entries of q' are entries of q in their order, and those that stood still stand. -/
structure Shots.Within (q q' : Shots) : Prop where
  sublist : q'.queue.Sublist q.queue
  stands : ∀ e ∈ q'.queue, q.stands e.handle e.generation → q'.stands e.handle e.generation

/-- A property of a mode with its records and of the shot queue that all which flight and CT do keeps. Each field is one thing that can
happen; those that say HOLD leave the records as HOLD has them, ready for the entry to a mode. -/
structure FlightInvariant (P : Mode → Records → Shots → Prop) : Prop where
  starts : ∀ b stands, P .stopped (Fc.reset b false).records ⟨[], true, stands⟩ ∧ P .stopped (Fc.reset b true).records ⟨[], true, stands⟩
  closesJog : ∀ r q, P .jog r q → P .hold { r with jogDemand := .zero, deadman := none } q
  closesCue : ∀ st r q, st = .cut ∨ st = .aborted → P .cue r q → P .hold { r with run := none } (q.halt st)
  closesLeg : ∀ m r q, m = .hold ∨ m.isLeg = true → P m r q → P .hold { r with legGoal := none } q
  closesEvict : ∀ r q, P .evict r q → P .hold { r with evict := none } q
  settled : ∀ r q, P (.ret .settle) r q → P (.ret .settle) { r with legGoal := none } q
  noEvict : ∀ m r q, m ≠ .evict → P m r q → P m { r with evict := none } q
  clears : ∀ m r q, m = .hold ∨ m = .jog ∨ m = .launching ∧ r.launchTimer = none → P m r q → P .hold r.cleared q
  evicts : ∀ e m r q, m = .hold ∨ m = .evict → P m r q → P .evict { r with evict := some e } q
  begins : ∀ leg g m r q, leg ≠ .settle → m = .hold ∨ m.isLeg = true → P m r q → P (.ret leg) { r with legGoal := some g } q
  blocks : ∀ r q, P .hold r q → P .hold r (q.halt .blocked)
  runs : ∀ x r q, q.queue ≠ [] → P .hold r q → P .cue { r with run := some x } { q with queue := setHead .running q.queue }
  retakes : ∀ r q, P .hold r q → P .hold r { q with queue := setHead .waiting q.queue, halted := false }
  losesHead : ∀ m r q q', m ≠ .cue → q.Within q' → q'.queue.Sublist q.queue.tail → P m r q → P m r q'
  losesRun : ∀ r q q', q.Within q' → q'.queue.Sublist q.queue.tail → P .cue r q → P .hold r.cleared q'
  keepsHead : ∀ m r q q', q.Within q' → q'.queue.head? = q.queue.head? → q'.halted = q.halted → P m r q → P m r q'
  adds : ∀ e m r q, q.queue.length < 6 → e.status = .waiting → q.stands e.handle e.generation → P m r q →
    P m r { q with queue := q.queue ++ [e] }
  jogs : ∀ d dm m r q, m = .hold ∨ m = .jog → (dm.isSome = true ↔ d ≠ .zero) → P m r q →
    P .jog { r with jogDemand := d, deadman := dm } q
  rests : ∀ m r q, P m r q → P m { r with jogDemand := .zero, deadman := none } q
  timersEnd : ∀ lt st m r q, lt = r.launchTimer ∨ lt = none → st = r.settleTimer ∨ st = none → P m r q →
    P m { r with launchTimer := lt, settleTimer := st } q
  launches : ∀ x r q, P .parked r q → P .launching { r with v := .zero, launchTimer := some x } q
  settles : ∀ x r q, P (.ret .descend) r q → P (.ret .settle) { r with v := .zero, legGoal := none, settleTimer := some x } q
  parks : ∀ m r q, m = .parked ∨ m = .ret .settle → P m r q → P .parked { r with v := .zero, settleTimer := none } q
  resumes : ∀ r q, P .stopped r q → P .parked { r with v := .zero, causes := [], launchTimer := none, settleTimer := none } q
  stops : ∀ lt st c m r q, r.lacks c → m ∈ [.hold, .parked, .launching, .ret .settle] → P m r q →
    P .stopped (r.stopped lt st c) { q with halted := true }
  raises : ∀ c r q, r.lacks c → P .stopped r q → P .stopped (r.enter c) q
  marks : ∀ c b m r q, P m r q →
    P m { r with causes := r.causes.map (fun e => if e.cause = c ∧ c.enteredLive = true then { e with live := b } else e) } q

/-- The records and the shot queue of a state fit a mode. -/
def Fits (P : Mode → Records → Shots → Prop) (m : Mode) (s : State) : Prop := P m s.fc.records s.ct.shots

/-- The records and the shot queue fit the mode. -/
def OnFlight (P : Mode → Records → Shots → Prop) (s : State) : Prop := Fits P s.fc.mode s

section
variable {P : Mode → Records → Shots → Prop} {m : Mode} {s u : State}

theorem Fits.of_eq (h : Fits P m s) (hf : u.fc.records = s.fc.records) (ht : u.ct.shots = s.ct.shots) : Fits P m u := by
  unfold Fits
  rwa [hf, ht]

theorem OnFlight.of_eq (h : OnFlight P s) (hm : u.fc.mode = s.fc.mode) (hf : u.fc.records = s.fc.records)
    (ht : u.ct.shots = s.ct.shots) : OnFlight P u := by
  unfold OnFlight
  rw [hm]
  exact Fits.of_eq h hf ht

theorem OnFlight.of_fc_ct (h : OnFlight P s) (hf : u.fc = s.fc) (ht : u.ct = s.ct) : OnFlight P u :=
  h.of_eq (by rw [hf]) (by rw [hf]) (by rw [ht])

theorem OnFlight.fits (h : OnFlight P s) (hm : s.fc.mode = m) : Fits P m s := hm ▸ h

theorem Fits.onFlight (h : Fits P m s) (hm : s.fc.mode = m) : OnFlight P s := by
  subst hm
  exact h

theorem OnFlight.ite {t : State} {c : Prop} [Decidable c] (h : c → OnFlight P s) (k : ¬ c → OnFlight P t) :
    OnFlight P (if c then s else t) := by
  split
  · next hc => exact h hc
  · next hc => exact k hc

theorem Fits.setMode (h : Fits P m s) : OnFlight P (setMode m s) := by
  unfold OnFlight Fits
  rw [setMode_fc, setMode_ct]
  exact h

theorem Fits.setEvictBlocked (b : Bool) (h : Fits P m s) : Fits P m (setEvictBlocked b s) := h.of_eq (by simp [Fc.records]) (by simp)
theorem Fits.setReturnBlocked (b : Bool) (h : Fits P m s) : Fits P m (setReturnBlocked b s) :=
  h.of_eq (by simp [Fc.records]) (by simp)
theorem Fits.setPinned (b : Bool) (h : Fits P m s) : Fits P m (setPinned b s) := h.of_eq (by simp [Fc.records]) (by simp)
theorem Fits.clearLatch (h : Fits P m s) : Fits P m (clearLatch s) := h.of_eq (by simp [Fc.records]) (by simp)
theorem OnFlight.setEvictBlocked (b : Bool) (h : OnFlight P s) : OnFlight P (setEvictBlocked b s) :=
  (Fits.setEvictBlocked b h).onFlight (by simp)
theorem OnFlight.setReturnBlocked (b : Bool) (h : OnFlight P s) : OnFlight P (setReturnBlocked b s) :=
  (Fits.setReturnBlocked b h).onFlight (by simp)
theorem OnFlight.setPinned (b : Bool) (h : OnFlight P s) : OnFlight P (setPinned b s) := (Fits.setPinned b h).onFlight (by simp)
theorem OnFlight.clearLatch (h : OnFlight P s) : OnFlight P (clearLatch s) := (Fits.clearLatch h).onFlight (by simp)
theorem OnFlight.setLatch (h : OnFlight P s) : OnFlight P (setLatch s) := h.of_eq rfl rfl rfl
theorem OnFlight.reportQueue (t : Ct) (h : OnFlight P s) : OnFlight P (reportQueue t s) := .ite (fun _ => h) (fun _ => h.of_fc_ct rfl rfl)

theorem closeMode_mode (s : State) : (closeMode s).fc.mode = s.fc.mode := by
  unfold closeMode
  split <;> rfl

theorem closeMode_of_evict (hm : s.fc.mode = .evict) : closeMode s = s := by simp only [closeMode, hm]

theorem closeMode_of_hold (hm : s.fc.mode = .hold) : closeMode s = s := by simp only [closeMode, hm]

theorem OnFlight.clearIfNoSubject (h : OnFlight P s) : OnFlight P (clearIfNoSubject s) :=
  .ite (fun _ => h.setEvictBlocked _) (fun _ => h)

theorem deadman_of_demand (d : Vec3) (t : PartTime) : (if d = .zero then none else some t).isSome = true ↔ d ≠ .zero := by
  split <;> simp_all

/-- The records at the entry to STOPPED are those of the mode closed, stopped. -/
theorem enterStopped_records (c : Cause) (s : State) :
    (enterStopped { s with fc := { s.fc with causes := s.fc.causes ++ [{ cause := c, live := c.enteredLive }] } }).fc.records =
      (closeMode s).fc.records.stopped (stopTimer s.part.partTime s.fc.launchTimer) (stopTimer s.part.partTime s.fc.settleTimer) c := by
  simp only [enterStopped, setMode_fc, setReturnBlocked_fc, setEvictBlocked_fc, setPinned_fc, closeForStop, closeMode]
  split <;> rfl

theorem enterStopped_shots (c : Cause) (s : State) :
    (enterStopped { s with fc := { s.fc with causes := s.fc.causes ++ [{ cause := c, live := c.enteredLive }] } }).ct.shots =
      { (closeMode s).ct.shots with halted := true } := by
  simp only [enterStopped, setMode_ct, setReturnBlocked_ct, setEvictBlocked_ct, setPinned_ct, closeForStop, closeMode]
  split <;> rfl

theorem enterStopped_mode (s : State) : (enterStopped s).fc.mode = .stopped := by simp [enterStopped]

variable (hP : FlightInvariant P)
include hP

/-! ## Runs -/

theorem Fits.runStart (e : QueueEntry) (h : Fits P .hold s) (hm : s.fc.mode = .hold) (hq : s.ct.queue ≠ []) :
    OnFlight P (runStart e s).1 := by
  have blocked : OnFlight P (haltHead .blocked s) := Fits.onFlight (m := .hold) (hP.blocks _ _ h) hm
  unfold Machine.runStart
  split
  · exact blocked
  · split
    · exact blocked
    · split
      · exact blocked
      · refine Fits.setMode (m := .cue) ?_
        exact hP.runs _ _ _ hq h

theorem OnFlight.startTest (h : OnFlight P s) : OnFlight P (startTest s) := by
  unfold Machine.startTest
  split
  · exact h
  · next e rest hq =>
    refine .ite (fun hc => ?_) (fun _ => h)
    exact (h.fits hc.1).runStart hP e hc.1 (by simp [hq])

/-! ## Closing a mode, and the entries -/

/-- A mode that an eviction or a return can end is closed as HOLD is. -/
theorem OnFlight.closeMode (h : OnFlight P s) (hm : s.fc.mode.evictable = true) : Fits P .hold (closeMode s) := by
  unfold Machine.closeMode
  split
  case h_1 hj => exact hP.closesJog _ _ (h.fits hj)
  case h_2 hc => exact hP.closesCue .aborted _ _ (.inr rfl) (h.fits hc)
  case h_3 leg hl =>
    refine hP.closesLeg s.fc.mode _ _ (.inr ?_) h
    simpa [Mode.evictable, hl] using hm
  case h_6 hh => exact h.fits hh
  all_goals
    rename_i hx
    simp [Mode.evictable, hx, Mode.isLeg] at hm

theorem OnFlight.enterEvict (e : EvictRecord) (h : OnFlight P s) (hm : s.fc.mode.evictable = true) : OnFlight P (enterEvict e s) := by
  refine Fits.setMode (Fits.setEvictBlocked _ ?_)
  exact hP.evicts e .hold _ _ (.inl rfl) (h.closeMode hP hm)

theorem OnFlight.evictionTestInHold (h : OnFlight P s) (hm : s.fc.mode = .hold) : OnFlight P (evictionTestInHold s) := by
  unfold Machine.evictionTestInHold
  split
  · exact h
  · refine OnFlight.setEvictBlocked _ (Fits.onFlight (m := .hold) ?_ hm)
    exact hP.noEvict .hold _ _ (by simp) (h.fits hm)
  · exact h.enterEvict hP _ (by simp [hm, Mode.evictable])

theorem Fits.beginLeg {leg : Leg} (hl : leg ≠ .settle) (hm : m = .hold ∨ m.isLeg = true) (h : Fits P m s)
    (e : beginLeg leg s = some u) : OnFlight P u := by
  unfold Machine.beginLeg at e
  split at e
  · cases e
  · simp only at e
    split at e <;> cases e
    refine Fits.setMode (m := .ret leg) ?_
    exact hP.begins leg _ m _ _ hl hm h

theorem OnFlight.startReturnInHold (h : OnFlight P s) (hm : s.fc.mode = .hold) : OnFlight P (startReturnInHold s) := by
  unfold Machine.startReturnInHold
  split
  · next e => exact OnFlight.setReturnBlocked _ ((h.fits hm).beginLeg hP (by simp) (.inl rfl) e)
  · refine OnFlight.setReturnBlocked _ (Fits.onFlight (m := .hold) ?_ hm)
    exact hP.closesLeg .hold _ _ (.inl rfl) (h.fits hm)

theorem OnFlight.holdTests (cause : HoldCause) (h : OnFlight P s) (hm : s.fc.mode = .hold) : OnFlight P (holdTests cause s) := by
  unfold Machine.holdTests
  have latched : OnFlight P (if s.fc.hot = true then Machine.setLatch s else s) := .ite (fun _ => h.setLatch) (fun _ => h)
  have latchedMode : (if s.fc.hot = true then Machine.setLatch s else s).fc.mode = .hold := by split <;> exact hm
  generalize (if s.fc.hot = true then Machine.setLatch s else s) = t at latched latchedMode
  simp only
  have returned : OnFlight P (if (t.fc.latch && holdStartsReturn cause t) = true then Machine.startReturnInHold t else t) :=
    .ite (fun _ => latched.startReturnInHold hP latchedMode) (fun _ => latched)
  exact .ite (fun _ => returned.startTest hP) (fun _ => returned)

/-- The entry to HOLD from records that HOLD's clearing makes fit. -/
theorem Fits.enterHold (cause : HoldCause) (h : P .hold s.fc.records.cleared s.ct.shots) : OnFlight P (enterHold cause s) := by
  unfold Machine.enterHold
  have held : OnFlight P (Machine.setMode .hold
      { s with fc := { s.fc with deadman := none, jogDemand := .zero, run := none, legGoal := none, evict := none } }) :=
    Fits.setMode (m := .hold) h
  have heldMode : (Machine.setMode .hold
      { s with fc := { s.fc with deadman := none, jogDemand := .zero, run := none, legGoal := none, evict := none } }).fc.mode = .hold := by
    simp
  generalize Machine.setMode .hold _ = t at held heldMode
  simp only
  have tested : OnFlight P (if cause = .evictBlocked then t else Machine.evictionTestInHold t) :=
    .ite (fun _ => held) (fun _ => held.evictionTestInHold hP heldMode)
  exact .ite (fun hm => tested.holdTests hP cause hm) (fun _ => tested)

/-- The entry to HOLD from a mode that is closed. -/
theorem Fits.enterHold_closed (cause : HoldCause) (h : Fits P .hold s) : OnFlight P (Machine.enterHold cause s) :=
  Fits.enterHold hP cause (hP.clears .hold _ _ (.inl rfl) h)

/-! ## Evictions and returns -/

theorem OnFlight.blockEviction (h : OnFlight P s) (hm : s.fc.mode.evictable = true ∨ s.fc.mode = .evict) : OnFlight P (blockEviction s) := by
  refine Fits.enterHold_closed hP _ ?_
  by_cases he : s.fc.mode = .evict
  · rw [closeMode_of_evict (by simpa using he)]
    exact Fits.setEvictBlocked _ (hP.closesEvict _ _ (h.fits he))
  · have left : OnFlight P { s with fc := { s.fc with evict := none } } := hP.noEvict _ _ _ he h
    refine (left.setEvictBlocked true).closeMode hP ?_
    simpa using hm.resolve_right he

theorem OnFlight.evictionTest (h : OnFlight P s) : OnFlight P (evictionTest s) := by
  unfold Machine.evictionTest
  refine .ite (fun hm => ?_) (fun _ => h)
  split
  · exact h
  · exact h.enterEvict hP _ hm
  · exact .ite (fun _ => h) fun _ => .ite (fun hh => h.evictionTestInHold hP hh) fun _ => h.blockEviction hP (.inl hm)

theorem OnFlight.chooseAgain (h : OnFlight P s) (hm : s.fc.mode = .evict) : OnFlight P (chooseAgain s) := by
  unfold Machine.chooseAgain
  split
  · exact Fits.onFlight (m := .evict) (hP.evicts _ .evict _ _ (.inr rfl) (h.fits hm)) hm
  · exact h.blockEviction hP (.inr hm)

theorem OnFlight.blockReturn (h : OnFlight P s) (hm : s.fc.mode = .hold ∨ s.fc.mode.isLeg = true) : OnFlight P (blockReturn s) := by
  have left : Fits P .hold { s with fc := { s.fc with legGoal := none } } := hP.closesLeg _ _ _ hm h
  unfold Machine.blockReturn
  refine .ite (fun hh => (left.setReturnBlocked true).onFlight (by simpa using hh)) fun hh => ?_
  refine Fits.enterHold_closed hP _ ?_
  have leg : s.fc.mode.isLeg = true := hm.resolve_left (by simpa using hh)
  have blocked := left.setReturnBlocked true
  have blockedMode : (Machine.setReturnBlocked true { s with fc := { s.fc with legGoal := none } }).fc.mode = s.fc.mode := by simp
  generalize Machine.setReturnBlocked true _ = t at blocked blockedMode
  unfold Machine.closeMode
  rw [blockedMode]
  cases hx : s.fc.mode <;> rw [hx] at leg <;> first | cases leg | exact hP.closesLeg .hold _ _ (.inl rfl) blocked

theorem OnFlight.startReturn (h : OnFlight P s) (hm : s.fc.mode.evictable = true) : OnFlight P (startReturn s) := by
  have closed := h.closeMode hP hm
  unfold Machine.startReturn
  refine .ite (fun hh => (closed.onFlight hh).startReturnInHold hP hh) fun _ => ?_
  split
  · next e => exact OnFlight.setReturnBlocked _ (closed.beginLeg hP (by simp) (.inl rfl) e)
  · refine Fits.enterHold_closed hP _ (Fits.setReturnBlocked _ ?_)
    exact hP.closesLeg .hold _ _ (.inl rfl) closed

theorem OnFlight.returnDemand (h : OnFlight P s) : OnFlight P (returnDemand s) := by
  unfold Machine.returnDemand
  split
  case h_1 | h_2 => exact h
  case h_3 | h_4 | h_5 => exact h.setLatch
  all_goals
    rename_i hm
    exact h.setLatch.startReturn hP (by simp [Machine.setLatch, hm, Mode.evictable])

/-! ## Launch, settle, park and stop -/

theorem OnFlight.testLaunch (h : OnFlight P s) : OnFlight P (testLaunch s) := by
  refine .ite (fun hc => Fits.enterHold hP _ ?_) (fun _ => h)
  have ended := hP.timersEnd none s.fc.settleTimer _ _ _ (.inr rfl) (.inl rfl) (h.fits hc.1)
  exact hP.clears .launching _ _ (.inr (.inr ⟨rfl, rfl⟩)) ended

theorem Fits.enterLaunching (h : Fits P .parked s) : OnFlight P (enterLaunching s) := by
  refine OnFlight.testLaunch hP (Fits.setMode ?_)
  exact hP.launches _ _ _ h

theorem Fits.enterParked (hm : m = .parked ∨ m = .ret .settle) (h : Fits P m s) : OnFlight P (enterParked s) := by
  refine Fits.setMode (Fits.setPinned _ (Fits.clearLatch ?_))
  exact hP.parks m _ _ hm h

theorem OnFlight.testSettle (h : OnFlight P s) : OnFlight P (testSettle s) :=
  .ite (fun hc => (h.fits hc.1).enterParked hP (.inr rfl)) (fun _ => h)

theorem Fits.enterSettle (h : Fits P (.ret .descend) s) : OnFlight P (enterSettle s) := by
  refine OnFlight.testSettle hP (Fits.setMode ?_)
  exact hP.settles _ _ _ h

/-- The entry to STOPPED with a new cause, from a mode that is closed as one of those that STOPPED is entered from. -/
theorem OnFlight.enterStopped {c : Cause} (h : OnFlight P s) (hm : s.fc.mode ≠ .stopped) (hc : s.fc.records.lacks c) :
    OnFlight P (Machine.enterStopped { s with fc := { s.fc with causes := s.fc.causes ++ [{ cause := c, live := c.enteredLive }] } }) := by
  have closed (lt st : Option PartTime) :
      P .stopped ((Machine.closeMode s).fc.records.stopped lt st c) { (Machine.closeMode s).ct.shots with halted := true } := by
    by_cases he : s.fc.mode.evictable = true
    · have lacks : (Machine.closeMode s).fc.records.lacks c := by
        unfold Machine.closeMode
        split <;> exact hc
      exact hP.stops lt st c .hold _ _ lacks (by simp) (h.closeMode hP he)
    · cases hx : s.fc.mode with
      | stopped => exact absurd hx hm
      | evict =>
        rw [closeMode_of_evict hx]
        exact hP.stops lt st c .hold { s.fc.records with evict := none } _ hc (by simp) (hP.closesEvict _ _ (h.fits hx))
        | parked | launching =>
        simp only [Machine.closeMode, hx]
        exact hP.stops lt st c _ _ _ hc (by simp) (h.fits hx)
      | ret leg =>
        cases leg with
        | settle =>
          simp only [Machine.closeMode, hx]
          exact hP.stops lt st c _ _ _ hc (by simp) (hP.settled _ _ (h.fits hx))
        | _ => simp [Mode.evictable, hx, Mode.isLeg] at he
      | _ => simp [Mode.evictable, hx] at he
  refine Fits.onFlight (m := .stopped) ?_ (enterStopped_mode _)
  unfold Fits
  rw [enterStopped_records, enterStopped_shots]
  exact closed _ _

theorem OnFlight.raiseCause (c : Cause) (h : OnFlight P s) : OnFlight P (raiseCause c s) := by
  unfold Machine.raiseCause
  refine .ite (fun _ => Fits.onFlight (hP.marks c true _ _ _ h) rfl) fun hnot => ?_
  have lacks : s.fc.records.lacks c := by
    simpa [holdsCause, Records.lacks, Fc.records] using hnot
  refine .ite (fun hm => Fits.onFlight (hP.raises c _ _ lacks (h.fits hm)) hm) fun hm => ?_
  exact (h.enterStopped hP hm lacks).reportQueue _

theorem OnFlight.clearCause (c : Cause) (h : OnFlight P s) : OnFlight P (clearCause c s) :=
  Fits.onFlight (hP.marks c false _ _ _ h) rfl

theorem OnFlight.carryOutResume (q : Vec3) (h : OnFlight P s) (hm : s.fc.mode = .stopped) : OnFlight P (carryOutResume q s) := by
  have cleared : Fits P .parked (clearOverflow
      { s with fc := { s.fc with p := some q, v := .zero, causes := [], launchTimer := none, settleTimer := none } }) := by
    refine Fits.of_eq ?_ (congrArg Fc.records (changes_clearOverflow _).fc) (congrArg Ct.shots (changes_clearOverflow _).ct)
    exact hP.resumes _ _ (h.fits hm)
  exact .ite (fun _ => cleared.enterParked hP (.inl rfl)) (fun _ => cleared.enterLaunching hP)

/-! ## Demands and holds -/

theorem OnFlight.takeDemand (d : Vec3) (h : OnFlight P s) (hm : s.fc.mode = .jog) : OnFlight P (takeDemand d s) := by
  exact Fits.onFlight (m := .jog) (hP.jogs d _ .jog _ _ (.inr rfl) (deadman_of_demand d _) (h.fits hm)) hm

theorem Fits.enterJog (d : Vec3) (h : Fits P .hold s) : OnFlight P (Machine.setMode .jog (Machine.takeDemand d s)) := by
  exact Fits.setMode (hP.jogs d _ .hold _ _ (.inl rfl) (deadman_of_demand d _) h)

theorem OnFlight.jogIn {d : Vec3} (h : OnFlight P s) (e : jogIn d s = some u) : OnFlight P u := by
  unfold Machine.jogIn at e
  split at e
  case h_1 hm =>
    cases e
    refine .ite (fun hd => ?_) (fun _ => (h.fits hm).enterJog hP d)
    subst hd
    exact Fits.onFlight (hP.rests _ _ _ h) rfl
  case h_2 hm =>
    cases e
    exact h.takeDemand hP d hm
  case h_3 hm =>
    cases e
    exact (h.closeMode hP (by simp [hm, Mode.evictable])).enterJog hP d
  all_goals cases e

theorem OnFlight.holdIn (h : OnFlight P s) (e : holdIn s = some u) : OnFlight P u := by
  unfold Machine.holdIn at e
  split at e
  case h_1 hm =>
    cases e
    exact .ite (fun _ => h.clearLatch.startTest hP) (fun _ => h.clearLatch)
  case h_2 hm =>
    cases e
    refine Fits.enterHold hP _ (hP.clears .jog _ _ (.inr (.inl rfl)) ?_)
    exact Fits.clearLatch (h.fits hm)
  case h_3 hm =>
    cases e
    exact Fits.enterHold_closed hP _ (h.closeMode hP (by simp [hm, Mode.evictable]))
  case h_5 leg hl hm =>
    cases e
    refine Fits.enterHold_closed hP _ (Fits.clearLatch (h.closeMode hP ?_))
    cases leg with
    | settle => exact absurd rfl hl
    | _ => simp [hm, Mode.evictable, Mode.isLeg]
  all_goals cases e

/-! ## Zone changes, drives and the hot flag -/

theorem OnFlight.endEviction (h : OnFlight P s) (hm : s.fc.mode = .evict) : OnFlight P (endEviction s) :=
  Fits.enterHold_closed hP _ (hP.closesEvict _ _ (h.fits hm))

theorem OnFlight.reportOnEviction (r : ChangeReport) (h : OnFlight P s) (hm : s.fc.mode = .evict) : OnFlight P (reportOnEviction r s) := by
  unfold Machine.reportOnEviction
  split
  · exact h.endEviction hP hm
  · exact .ite (fun _ => h.endEviction hP hm) fun _ => .ite (fun _ => h.chooseAgain hP hm) fun _ =>
      .ite (fun _ => h.chooseAgain hP hm) fun _ => h

theorem OnFlight.recheckFails (h : OnFlight P s) (hm : s.fc.mode = .cue ∨ s.fc.mode.isLeg = true) : OnFlight P (recheckFails s) := by
  unfold Machine.recheckFails
  refine .ite (fun hc => Fits.enterHold hP _ ?_) fun hc => h.blockReturn hP (.inr (hm.resolve_left hc))
  have cut := hP.closesCue .cut _ _ (.inl rfl) (h.fits hc)
  exact hP.clears .hold { s.fc.records with run := none } _ (.inl rfl) cut

theorem OnFlight.recheckPath (h : OnFlight P s) : OnFlight P (recheckPath s) := by
  unfold Machine.recheckPath
  split
  · exact h
  · next goal hg =>
    refine .ite (fun _ => h.recheckFails hP ?_) (fun _ => h)
    unfold recheckGoal at hg
    split at hg
    case h_1 hm => exact .inl hm
    case h_2 hm | h_3 hm | h_4 hm => exact .inr (by rw [hm]; rfl)
    all_goals cases hg

theorem OnFlight.takeChangeReport (r : ChangeReport) (h : OnFlight P s) : OnFlight P (takeChangeReport r s) := by
  have copied : OnFlight P (takeCopies r s) := h.of_eq rfl rfl rfl
  have stepped : OnFlight P (reportStep2 r (takeCopies r s)) :=
    .ite (fun hm => copied.reportOnEviction hP r hm) (fun _ => copied.clearIfNoSubject.evictionTest hP)
  have checked := stepped.recheckPath hP
  exact OnFlight.reportQueue _ (.ite (fun hc => checked.startReturnInHold hP hc.1) (fun _ => checked))

theorem OnFlight.takeSummary (cap : Option Int) (n : Option ZoneName) (h : OnFlight P s) : OnFlight P (takeSummary cap n s) := by
  have copied : OnFlight P { s with fc := { s.fc with nearCap := cap, subject := n } } := h.of_eq rfl rfl rfl
  unfold Machine.takeSummary Machine.summaryActs
  refine OnFlight.reportQueue _ (.ite (fun hm => .ite (fun _ => copied) (fun _ => copied.endEviction hP hm)) fun _ => ?_)
  exact .ite (fun _ => copied.clearIfNoSubject) (fun _ => copied.clearIfNoSubject.evictionTest hP)

theorem OnFlight.takeDriveStatus (w : Winch) (d : DriveStatus) (h : OnFlight P s) : OnFlight P (takeDriveStatus w d s) := by
  have copied : OnFlight P { s with fc := { s.fc with driveStatus := put s.fc.driveStatus w (some d) } } := h.of_eq rfl rfl rfl
  exact OnFlight.reportQueue _ (.ite (fun _ => copied.testLaunch hP) (fun _ => copied.testSettle hP))

theorem OnFlight.takeHot (b : Bool) (h : OnFlight P s) : OnFlight P (takeHot b s) := by
  have copied : OnFlight P { s with fc := { s.fc with hot := b } } := h.of_eq rfl rfl rfl
  exact .ite (fun _ => (copied.returnDemand hP).reportQueue _) (fun _ => copied)

/-! ## The servo step -/

theorem OnFlight.nextLeg {leg : Leg} (hl : leg ≠ .settle) (h : OnFlight P s) (hm : s.fc.mode.isLeg = true) : OnFlight P (nextLeg leg s) := by
  unfold Machine.nextLeg
  split
  · next e => exact Fits.beginLeg hP hl (.inr hm) h e
  · exact h.blockReturn hP (.inr hm)

theorem OnFlight.completeLeg {leg : Leg} (h : OnFlight P s) (hm : s.fc.mode = .ret leg) : OnFlight P (completeLeg leg s) := by
  cases leg with
  | rise => exact h.nextLeg hP (by simp) (by rw [hm]; rfl)
  | traverse => exact h.nextLeg hP (by simp) (by rw [hm]; rfl)
  | descend => exact (h.fits hm).enterSettle hP
  | settle => exact h

omit hP in
theorem tail_within (q : Shots) : q.Within { q with queue := q.queue.tail } := ⟨q.queue.tail_sublist, fun _ _ => id⟩

theorem OnFlight.arrive (r : RunRecord) (h : OnFlight P s) (hm : s.fc.mode = .cue) : OnFlight P (arrive r s) :=
  Fits.enterHold hP _ (hP.losesRun _ _ { s.ct.shots with queue := s.ct.queue.tail } (tail_within s.ct.shots) (.refl _) (h.fits hm))

theorem OnFlight.modeTest (p : Vec3) (h : OnFlight P s) : OnFlight P (modeTest p s) := by
  unfold Machine.modeTest
  split
  case h_1 hm => exact .ite (fun _ => Fits.enterHold hP _ (hP.clears .jog _ _ (.inr (.inl rfl)) (h.fits hm))) (fun _ => h)
  case h_2 hm =>
    split
    · exact .ite (fun _ => h.arrive hP _ hm) (fun _ => h)
    · exact h
  case h_3 hm =>
    split
    · exact .ite (fun _ => h.chooseAgain hP hm) (fun _ => h)
    · exact h
  case h_5 leg hl hm =>
    split
    · exact .ite (fun _ => h.completeLeg hP hm) (fun _ => h)
    · exact h
  all_goals exact h

theorem OnFlight.stage8 (m : Motion) (h : OnFlight P s) : OnFlight P (stage8 m s) := by
  unfold Machine.stage8
  split
  · exact h
  · refine .ite (fun _ => ?_) (fun _ => h.modeTest hP _)
    exact .ite (fun hm => h.blockEviction hP (.inr hm)) fun _ => .ite (fun hm => h.blockReturn hP (.inr hm)) fun _ => h

omit hP in
theorem OnFlight.handOnStep (m : Motion) (a : Int) (h : OnFlight P s) : OnFlight P (handOnStep m a s) := by
  have handed : OnFlight P (sendPosition a (startRound (handTargets s))) :=
    h.of_fc_ct (changes_startRound (handTargets s)).fc (changes_startRound (handTargets s)).ct
  have sent : OnFlight P (sendAllowance a (sendPosition a (startRound (handTargets s)))) := by
    unfold sendAllowance
    exact .ite (fun _ => handed) (fun _ => handed.of_eq rfl rfl rfl)
  have pinned : OnFlight P (updatePinned m (sendAllowance a (sendPosition a (startRound (handTargets s))))) := by
    unfold updatePinned
    exact .ite (fun _ => sent.setPinned _) fun _ => .ite (fun _ => sent.setPinned _) fun _ => sent
  have low (b : Bool) : OnFlight P (setLowPass b (updatePinned m (sendAllowance a (sendPosition a (startRound (handTargets s)))))) :=
    pinned.of_eq (by simp) (by simp [Fc.records]) (by simp)
  unfold Machine.handOnStep updateLowPass
  split <;> exact low _

/-- A servo step, where the velocity that its stages leave fits the mode. -/
theorem Fits.servoStep
    (hv : P s.fc.mode { s.fc.records with v := (stepMotion s.cs.record { s.fc with servo := s.fc.servo + 5 } s.lm.a).v } s.ct.shots) :
    OnFlight P (servoStep s) := by
  unfold Machine.servoStep settleMaxSpeed
  dsimp only
  generalize stepMotion s.cs.record { s.fc with servo := s.fc.servo + 5 } s.lm.a = m at hv ⊢
  have moved : OnFlight P (applyMotion m s.lm.a { s with fc := { s.fc with servo := s.fc.servo + 5 } }) := Fits.onFlight hv rfl
  have tested := ((moved.handOnStep m s.lm.a).stage8 hP m).reportQueue s.ct
  exact .ite (fun _ => tested.of_eq rfl rfl rfl) (fun _ => tested)

end

/-! ## The shot queue -/

section
variable {s : State}

/-- The head runs exactly in CUE. -/
theorem running_iff_cue (hs : ShotQueueSound s) {e : QueueEntry} {rest : List QueueEntry} (hq : s.ct.queue = e :: rest) :
    e.status = .running ↔ s.fc.mode = .cue := by
  obtain ⟨-, -, -, hrun, -⟩ := hs
  simpa [headIs, hq] using hrun

/-- The entries after the head do not run. -/
theorem not_running_of_mem_tail (hs : ShotQueueSound s) {e : QueueEntry} (he : e ∈ s.ct.queue.tail) : e.status ≠ .running := by
  obtain ⟨-, htail, -⟩ := hs
  rw [htail e he]
  simp

theorem any_running_iff_cue (hs : ShotQueueSound s) : (∃ e ∈ s.ct.queue, e.status = .running) ↔ s.fc.mode = .cue := by
  cases hq : s.ct.queue with
  | nil =>
    obtain ⟨-, -, -, hrun, -⟩ := hs
    simpa [headIs, hq] using hrun
  | cons e rest =>
    rw [← running_iff_cue hs hq]
    refine ⟨?_, fun h => ⟨e, List.mem_cons_self, h⟩⟩
    rintro ⟨e', he', hr⟩
    obtain rfl | he' := List.mem_cons.mp he'
    · exact hr
    · exact absurd hr (not_running_of_mem_tail hs (by simpa [hq] using he'))

/-- A slot's cue runs where the mode is CUE and the head names it. -/
theorem runs_iff (hs : ShotQueueSound s) (h : CueHandle) : s.ct.runs h = true ↔
    s.fc.mode = .cue ∧ ∃ e rest, s.ct.queue = e :: rest ∧ e.names h s.ct.slots[h].generation = true := by
  simp only [Ct.runs, List.any_eq_true, Bool.and_eq_true, decide_eq_true_eq]
  constructor
  case mp =>
    rintro ⟨e, he, hr, hn⟩
    have hm := (any_running_iff_cue hs).mp ⟨e, he, hr⟩
    cases hq : s.ct.queue with
    | nil => simp [hq] at he
    | cons e' rest =>
      rw [hq] at he
      obtain rfl | he := List.mem_cons.mp he
      · exact ⟨hm, e, rest, rfl, hn⟩
      · exact absurd hr (not_running_of_mem_tail hs (by simpa [hq] using he))
  case mpr =>
    rintro ⟨hm, e, rest, hq, hn⟩
    exact ⟨e, by simp [hq], (running_iff_cue hs hq).mpr hm, hn⟩

end

/-- The entries that do not name a cue that leaves its slot still stand. -/
theorem drop_within (h : CueHandle) (s : State) :
    s.ct.shots.Within
      ({ s.ct with
        queue := s.ct.queue.filter (fun e => !e.names h s.ct.slots[h].generation),
        slots := put s.ct.slots h { generation := s.ct.slots[h].generation, cue := none } } : Ct).shots := by
  refine ⟨List.filter_sublist, fun e he hst => ?_⟩
  have hne : e.handle ≠ h := by
    rintro rfl
    obtain ⟨-, hgen⟩ := hst
    have named : ¬ e.generation = s.ct.slots[e.handle].generation := by simpa [QueueEntry.names] using (List.mem_filter.mp he).2
    exact named hgen.symm
  simp only [Ct.shots, Ct.cue] at hst ⊢
  rwa [put_other _ _ _ _ hne]

section
variable {P : Mode → Records → Shots → Prop} {s : State} (hP : FlightInvariant P)
include hP

/-- The entries lose their head, and the mode CUE with it. -/
theorem OnFlight.losesHead {t : Ct} (h : OnFlight P s) (hm : s.fc.mode ≠ .cue) (hw : s.ct.shots.Within t.shots)
    (ht : t.queue.Sublist s.ct.queue.tail) : OnFlight P { s with ct := t } :=
  Fits.onFlight (hP.losesHead _ _ _ t.shots hm hw ht h) rfl

theorem OnFlight.cancelRun {t : Ct} (h : OnFlight P s) (hm : s.fc.mode = .cue) (hw : s.ct.shots.Within t.shots)
    (ht : t.queue.Sublist s.ct.queue.tail) (u : State) (hu : u.fc = s.fc) (hut : u.ct = t) : OnFlight P (cancelRun u) := by
  refine Fits.enterHold hP _ ?_
  rw [hu, hut]
  exact hP.losesRun _ _ t.shots hw ht (h.fits hm)

theorem OnFlight.skipHead {e : QueueEntry} {rest : List QueueEntry} (hs : ShotQueueSound s) (hq : s.ct.queue = e :: rest)
    (h : OnFlight P s) : OnFlight P (skipHead e rest s).state := by
  have within (halted : Bool) : s.ct.shots.Within ({ s.ct with queue := rest, halted := halted } : Ct).shots :=
    ⟨by simp [Ct.shots, hq], fun _ _ => id⟩
  have sub : rest.Sublist s.ct.queue.tail := by simp [hq]
  unfold Machine.skipHead
  refine OnFlight.reportQueue _ (OnFlight.startTest hP (.ite (fun hr => ?_) (fun hr => ?_)))
  · exact h.cancelRun hP ((running_iff_cue hs hq).mp (by simpa using hr)) (within _) sub _ rfl rfl
  · exact h.losesHead hP (fun hm => hr (by simpa using (running_iff_cue hs hq).mpr hm)) (within _) sub

theorem OnFlight.queueClear (hs : ShotQueueSound s) (h : OnFlight P s) : OnFlight P (queueClear s).state := by
  have within : s.ct.shots.Within ({ s.ct with queue := [], halted := false, dwell := none } : Ct).shots :=
    ⟨by simp [Ct.shots], fun _ _ => id⟩
  have cleared : OnFlight P
      (if s.ct.queue.any (fun e => decide (e.status = .running)) then
        Machine.cancelRun { s with ct := { s.ct with queue := [], halted := false, dwell := none } }
      else { s with ct := { s.ct with queue := [], halted := false, dwell := none } }) := by
    refine .ite (fun hr => ?_) (fun hr => ?_)
    · exact h.cancelRun hP ((any_running_iff_cue hs).mp (by simpa using hr)) within (List.nil_sublist _) _ rfl rfl
    · exact h.losesHead hP (fun hm => hr (by simpa using (any_running_iff_cue hs).mpr hm)) within (List.nil_sublist _)
  exact .ite (fun _ => cleared) (fun _ => cleared.of_fc_ct rfl rfl)

theorem OnFlight.cueDrop (h : CueHandle) (hs : ShotQueueSound s) (hf : OnFlight P s) : OnFlight P (cueDrop h s).state := by
  have within := drop_within h s
  unfold Machine.cueDrop
  extract_lets gen kept running headGone src t s1 s2 s3
  have dropped : OnFlight P s2 := by
    cases hq : s.ct.queue with
    | nil =>
      have hnot : running ≠ true := by simp [running, Ct.runs, hq]
      have keeps := hP.keepsHead _ _ _ _ within (by simp [Ct.shots, hq]) rfl hf
      exact .ite (fun hr => absurd hr hnot) fun _ => Fits.onFlight keeps rfl
    | cons e rest =>
      cases hn : e.names h gen with
      | false =>
        have hunnamed : e.names h s.ct.slots[h].generation = false := hn
        have hnot : running ≠ true := fun hr => by
          obtain ⟨-, e', rest', hq', hn'⟩ := (runs_iff hs h).mp hr
          rw [hq] at hq'
          cases hq'
          exact absurd hn' (hunnamed ▸ Bool.false_ne_true)
        have hhead : (s.ct.queue.filter (fun e => !e.names h s.ct.slots[h].generation)).head? = s.ct.queue.head? := by
          rw [hq, List.filter_cons_of_pos (by rw [hunnamed]; rfl)]
          rfl
        have keeps := hP.keepsHead _ _ _ _ within hhead rfl hf
        exact .ite (fun hr => absurd hr hnot) fun _ => Fits.onFlight keeps rfl
      | true =>
        have sub : kept.Sublist s.ct.queue.tail := by
          simp [kept, hq, hn]
        refine .ite (fun hr => ?_) (fun hr => ?_)
        · exact hf.cancelRun hP ((runs_iff hs h).mp hr).1 within sub s1 rfl rfl
        · have hm : s.fc.mode ≠ .cue := fun hm => hr ((runs_iff hs h).mpr ⟨hm, e, rest, hq, hn⟩)
          exact (hf.losesHead hP hm within sub).of_fc_ct rfl rfl
  exact OnFlight.reportQueue _ (.ite (fun _ => dropped.startTest hP) (fun _ => dropped))

theorem OnFlight.carryOutAdd {h : CueHandle} {c : Cue} (k : StartKind) (hc : s.ct.cue h = some c) (hl : s.ct.queue.length < 6)
    (hf : OnFlight P s) : OnFlight P (carryOutAdd h k s).state := by
  have joined : OnFlight P { s with ct := { s.ct with
      queue := s.ct.queue ++ [{ handle := h, generation := s.ct.slots[h].generation, kind := k, status := .waiting }] } } :=
    Fits.onFlight (hP.adds _ _ _ s.ct.shots hl rfl ⟨by simp [hc], rfl⟩ hf) rfl
  unfold Machine.carryOutAdd
  exact OnFlight.reportQueue _ (.ite (fun _ => joined.startTest hP) (fun _ => joined))

theorem OnFlight.takeHead (e : QueueEntry) (hq : s.ct.queue ≠ []) (hm : s.fc.mode = .hold) (hf : OnFlight P s) :
    OnFlight P (takeHead e s).state := by
  have taken : Fits P .hold { s with ct := { s.ct with queue := setHead .waiting s.ct.queue, halted := false } } :=
    hP.retakes _ s.ct.shots (hf.fits hm)
  have started := taken.runStart hP { e with status := .waiting } hm (by cases h : s.ct.queue <;> simp_all [setHead])
  exact started.of_fc_ct rfl rfl

/-! ## The cue table -/

/-- The table's slots change, and every name that stood still stands. -/
theorem OnFlight.of_slots {u : State} (hf : OnFlight P s) (hfc : u.fc = s.fc) (hq : u.ct.queue = s.ct.queue)
    (hh : u.ct.halted = s.ct.halted)
    (hst : ∀ e ∈ s.ct.queue, s.ct.shots.stands e.handle e.generation → u.ct.shots.stands e.handle e.generation) : OnFlight P u := by
  refine Fits.onFlight (m := s.fc.mode) ?_ (by rw [hfc])
  unfold Fits
  rw [hfc]
  refine hP.keepsHead _ _ s.ct.shots u.ct.shots ⟨?_, fun e he => hst e ?_⟩ ?_ hh hf
  · have same : u.ct.queue.Sublist s.ct.queue := hq ▸ List.Sublist.refl _
    exact same
  · rw [← hq]
    exact he
  · exact congrArg List.head? hq

omit hP in
theorem marked_stands (g : GeometryCfg) (t : Ct) (h : CueHandle) (gen : Generation) :
    (t.marked g).shots.stands h gen ↔ t.shots.stands h gen := by
  simp [Ct.shots, Ct.marked, Ct.cue]

theorem OnFlight.recomputeCues (hf : OnFlight P s) : OnFlight P (recomputeCues s) :=
  hf.of_slots hP rfl rfl rfl fun _ _ => (marked_stands _ _ _ _).mpr

theorem OnFlight.carryOutStore (p : Port) (f : StoreFields) (h : CueHandle) (hf : OnFlight P s) :
    OnFlight P (carryOutStore p f h s).state := by
  refine hf.of_slots hP rfl rfl rfl fun e _ hst => ?_
  obtain ⟨hsome, hgen⟩ := hst
  simp only [Machine.carryOutStore, notify_ct, Ct.shots, Ct.cue] at hsome hgen ⊢
  rw [put_getElem]
  split
  · next heq =>
    subst heq
    refine ⟨rfl, ?_⟩
    have occupied : s.ct.slots[e.handle].cue.isNone = false := by simpa using hsome
    show (if s.ct.slots[e.handle].cue.isNone = true then _ else s.ct.slots[e.handle].generation) = _
    rw [occupied]
    exact hgen
  · exact ⟨hsome, hgen⟩

end

/-! ## Requests and events -/

/-- What a named cue's request keeps: it is refused, or it acts on a cue that stands. -/
theorem onCue_keeps {I : State → Prop} {s : State} {handle gen : Byte} {act : CueHandle → Cue → Answer} (hs : I s)
    (h : ∀ h c, s.ct.cue h = some c → I (act h c).state) : I (onCue handle gen s act).state := by
  unfold onCue
  split
  · split
    · exact hs
    · next hc =>
      split
      · exact h _ _ hc
      · exact hs
  · exact hs

theorem refuse_keeps {I : State → Prop} {s : State} {c : Prop} [Decidable c] {r : Result} {a : Answer} (hs : I s)
    (h : ¬ c → I a.state) : I (if c then refuse r s else a).state := by
  split
  · exact hs
  · next hc => exact h hc

/-- What a configuration write keeps: it is refused, or it writes a group. -/
theorem configWrite_keeps {I : State → Prop} {s : State} {group : Byte} {bs : List Byte} (hs : I s)
    (h : ∀ g u, groupWrite g bs s = some u → I u) : I (configWrite group bs s).state := by
  unfold configWrite
  refine refuse_keeps hs fun _ => ?_
  split
  · exact hs
  · refine refuse_keeps hs fun _ => ?_
    split
    · next hw => exact h _ _ hw
    · exact hs

/-- Of FC nothing differs but the last accepted lengths. -/
def OnlyLengths (s u : State) : Prop := ∃ l, u.fc = { s.fc with lengths := l }

section
variable {s t u : State}

theorem OnlyLengths.of_fc (h : u.fc = s.fc) : OnlyLengths s u := ⟨s.fc.lengths, h⟩

theorem OnlyLengths.trans (h : OnlyLengths s t) (k : OnlyLengths t u) : OnlyLengths s u := by
  obtain ⟨l, h⟩ := h
  obtain ⟨l', k⟩ := k
  exact ⟨l', by rw [k, h]⟩

theorem OnlyLengths.ite {c : Prop} [Decidable c] (h : OnlyLengths s t) (k : OnlyLengths s u) : OnlyLengths s (if c then t else u) := by
  split <;> assumption

theorem closeByFrame_lengths (w : Winch) (t : Target) (f : StateFields) (s : State) : OnlyLengths s (closeByFrame w t f s) := by
  unfold closeByFrame
  extract_lets parts l0 src l s1 s2 s3
  have h1 : OnlyLengths s s1 := .of_fc rfl
  have measured : OnlyLengths s1 (takeMeasurements w f.meas (t.length, t.command) s1) := ⟨_, (changes_takeSet w f.meas _ _).fc⟩
  have h2 : OnlyLengths s s2 := .ite (h1.trans measured) h1
  have h3 : OnlyLengths s s3 := .ite (h2.trans (.of_fc (changes_takeStatus _ _ _).fc)) h2
  exact .ite h3 (h3.trans (.of_fc rfl))

theorem frameEnds_lengths (w : Winch) (f : List Byte) (s : State) : OnlyLengths s (frameEnds w f s) := by
  have settled : OnlyLengths s (settleLink w (setLink w { s.wlc[w] with rx := [] } s)) := .of_fc (changes_settleLink w _).fc
  unfold frameEnds judgeFrame
  dsimp only
  generalize settleLink w _ = t at settled ⊢
  have stale : OnlyLengths s (staleSeq w t) := settled.trans (.of_fc rfl)
  have bad : OnlyLengths s (badCheck w t) := settled.trans (.of_fc rfl)
  split
  · refine .ite bad ?_
    split
    · exact .ite (settled.trans (closeByFrame_lengths w _ _ t)) stale
    · exact stale
  · exact bad

theorem linkByte_lengths (w : Winch) (b : Byte) (s : State) : OnlyLengths s (linkByte w b s) := by
  unfold linkByte
  refine .ite (.ite (.of_fc rfl) (.of_fc rfl)) ?_
  dsimp only
  split
  · exact .ite (.of_fc rfl) (frameEnds_lengths w _ s)
  · exact .of_fc rfl

theorem linkBytes_lengths (w : Winch) (bs : List Byte) (s : State) : OnlyLengths s (bs.foldl (fun s b => linkByte w b s) s) := by
  induction bs generalizing s with
  | nil => exact .of_fc rfl
  | cons b bs ih => exact (linkByte_lengths w b s).trans (ih _)

end

section
variable {P : Mode → Records → Shots → Prop} {s u : State} (hP : FlightInvariant P)
include hP

theorem OnFlight.groupWrite {group : Group} {bs : List Byte} (h : OnFlight P s) (hw : groupWrite group bs s = some u) :
    OnFlight P u := by
  cases group with
  | geometry =>
    obtain ⟨g, -, rfl⟩ := Option.map_eq_some_iff.mp hw
    unfold writeGeometry
    dsimp only
    refine .ite (fun _ => OnFlight.recomputeCues hP (h.of_fc_ct ?_ ?_)) (fun _ => h.of_fc_ct rfl rfl)
    · exact (changes_reevaluate _).fc
    · exact (changes_reevaluate _).ct
  | motion =>
    obtain ⟨c, -, rfl⟩ := Option.map_eq_some_iff.mp hw
    unfold writeMotion settleMaxSpeed
    exact .ite (fun _ => h.of_fc_ct rfl rfl) fun _ => .ite (fun _ => h.of_eq rfl rfl rfl) fun _ => h.of_fc_ct rfl rfl
  | following =>
    obtain ⟨c, -, rfl⟩ := Option.map_eq_some_iff.mp hw
    exact h.of_fc_ct (changes_followingWritten _).fc (changes_followingWritten _).ct
  | winch =>
    cases bs with
    | nil => cases hw
    | cons n bs =>
      obtain ⟨w, -, hw⟩ := Option.bind_eq_some_iff.mp hw
      obtain ⟨c, -, rfl⟩ := Option.map_eq_some_iff.mp hw
      exact h.of_fc_ct (changes_writeWinch w c s).fc (changes_writeWinch w c s).ct
  | sag =>
    obtain ⟨c, -, rfl⟩ := Option.map_eq_some_iff.mp hw
    exact h.of_fc_ct rfl rfl
  | matrix =>
    obtain ⟨m, -, rfl⟩ := Option.map_eq_some_iff.mp hw
    exact h.of_fc_ct rfl rfl
  | ports =>
    obtain ⟨b, -, rfl⟩ := Option.map_eq_some_iff.mp hw
    exact h.of_fc_ct rfl rfl
  | stored => cases hw

omit hP in
theorem launchCheck_eq_none : launchCheck s = none ↔
    s.part.estopLine = false ∧ s.fc.mode = .parked ∧ s.cs.unconfigured = false ∧ linksUp s = true := by
  unfold launchCheck
  (repeat' split) <;> simp_all

theorem OnFlight.ownerAnswer (hs : ShotQueueSound s) (h : OnFlight P s) (p : Port) (r : Request) :
    OnFlight P (ownerAnswer p s r).state := by
  have changes := ownerAnswer_changes p s r
  cases r with
  | cueStore handle label target cruise tolerance dwell =>
    simp only [Machine.ownerAnswer, cueStore]
    split
    · exact h
    · refine refuse_keeps h fun _ => refuse_keeps h fun _ => ?_
      split
      · exact refuse_keeps h fun _ => h.carryOutStore hP p _ _
      · split
        · exact h.carryOutStore hP p _ _
        · exact h
  | cueDrop handle gen =>
    refine onCue_keeps h fun ch c _ => ?_
    split
    · exact h.cueDrop hP ch hs
    · exact h
  | queueAdd handle gen kind =>
    simp only [Machine.ownerAnswer, queueAdd]
    refine refuse_keeps h fun _ => ?_
    split
    · exact h
    · exact onCue_keeps h fun ch c hc => refuse_keeps h fun hl => h.carryOutAdd hP _ hc (Nat.not_le.mp hl)
  | queueTake =>
    simp only [Machine.ownerAnswer, queueTake]
    refine refuse_keeps h fun _ => ?_
    split
    · exact h
    · next hq =>
      refine refuse_keeps h fun hc => h.takeHead hP _ (by simp [hq]) ?_
      refine Classical.byContradiction fun hm => ?_
      exact hc (.inl hm)
  | queueSkip =>
    refine refuse_keeps h fun _ => ?_
    split
    · exact h
    · next hq => exact h.skipHead hP hs hq
  | queueClear => exact refuse_keeps h fun _ => h.queueClear hP hs
  | launch =>
    simp only [Machine.ownerAnswer]
    cases hc : launchCheck s with
    | some r => exact h
    | none =>
      have parked := (launchCheck_eq_none.mp hc).2.1
      exact ((h.fits parked).enterLaunching hP).reportQueue _
  | jog d =>
    simp only [Machine.ownerAnswer, jogRequest]
    refine refuse_keeps h fun _ => ?_
    split
    · exact h
    · next e => exact (h.jogIn hP e).reportQueue _
  | hold =>
    simp only [Machine.ownerAnswer, holdRequest]
    refine refuse_keeps h fun _ => ?_
    split
    · exact h
    · next e => exact (h.holdIn hP e).reportQueue _
  | returnDock => exact (h.returnDemand hP).reportQueue _
  | stop => exact h.raiseCause hP .stop
  | resume =>
    simp only [Machine.ownerAnswer, resumeRequest]
    split
    · exact h
    · next q hc =>
      have stopped : s.fc.mode = .stopped := by
        refine Classical.byContradiction fun hm => ?_
        simp [resumeCheck, hm] at hc
      exact (h.carryOutResume hP q stopped).reportQueue _
  | configWrite group bs => exact configWrite_keeps h fun _ _ hw => h.groupWrite hP hw
  | _ => exact h.of_fc_ct (changes.fc (by simp [ownerRegions])) (changes.ct (by simp [ownerRegions]))

theorem OnFlight.served (hs : ShotQueueSound s) (h : OnFlight P s) (p : Port) (r : Request) : OnFlight P (served p s r) := by
  have answered := h.ownerAnswer hP hs p r
  cases r with
  | driveQuery winch code args =>
    have changes := changes_driveQueryRequest p winch code args s
    exact h.of_fc_ct changes.fc changes.ct
  | _ => exact answered.of_fc_ct rfl rfl

theorem OnFlight.start (s : State) : OnFlight P (start s) := by
  have started (r : Record) (zones : List StoredZone) (b : Bool) : OnFlight P (startWith r zones b s) := by
    refine Fits.onFlight (m := .stopped) ?_ rfl
    unfold Fits startWith
    cases s.part.estopLine with
    | false => exact (hP.starts r.motion.maxSpeed _).1
    | true => exact (hP.starts r.motion.maxSpeed _).2
  unfold Machine.start
  split <;> exact started _ _ _

/-- What a command that is not a request keeps; of the servo step, where the velocity that its stages leave fits the mode. -/
theorem OnFlight.event {c : Instr} (hc : isRequest c = false) (h : OnFlight P s)
    (hv : P s.fc.mode { s.fc.records with v := (stepMotion s.cs.record { s.fc with servo := s.fc.servo + 5 } s.lm.a).v } s.ct.shots)
    (e : exec c s = .next u) : OnFlight P u := by
  have part : ∀ (s : State) x, OnFlight P s → OnFlight P { s with part := x } := fun _ _ k => k.of_fc_ct rfl rfl
  have chan : ∀ (s : State) x, OnFlight P s → OnFlight P { s with chan := x } := fun _ _ k => k.of_fc_ct rfl rfl
  have changes := exec_changes e
  cases c
  all_goals simp only [exec, regionsOf] at e changes
  case powerOn =>
    cases e
    exact .ite (fun _ => h.of_fc_ct rfl rfl) (fun _ => .start hP s)
  case resetReleased =>
    cases e
    exact .ite (fun _ => .start hP s) (fun _ => h.of_fc_ct rfl rfl)
  case restartResponseSent =>
    cases e
    exact .ite (fun _ => .start hP s) (fun _ => h)
  case estopAsserted =>
    cases e
    have raised : OnFlight P (Machine.raiseCause .estop (setEstopLine true s)) := OnFlight.raiseCause hP _ (h.of_fc_ct rfl rfl)
    refine .ite (fun _ => raised.of_fc_ct ?_ ?_) (fun _ => h.of_fc_ct rfl rfl)
    · exact (changes_raiseCondition _ _).fc
    · exact (changes_raiseCondition _ _).ct
  case estopReleased =>
    cases e
    have cleared : OnFlight P (Machine.clearCause .estop (setEstopLine false s)) := OnFlight.clearCause hP _ (h.of_fc_ct rfl rfl)
    refine .ite (fun _ => cleared.of_fc_ct ?_ ?_) (fun _ => h.of_fc_ct rfl rfl)
    · exact (changes_clearCondition _ _).fc
    · exact (changes_clearCondition _ _).ct
  case servoStep =>
    obtain he | ⟨due, -, -, he⟩ := onExpiry_cases (some s.fc.servo) servoStep s
    · rw [execServoStep, he] at e; cases e; exact h
    · rw [execServoStep, he] at e; cases e; exact Fits.servoStep hP hv
  case dwellTimerExpiry =>
    refine onExpiry_keeps h part (fun t k => OnFlight.reportQueue _ (OnFlight.startTest hP ?_)) e
    exact k.of_eq rfl rfl rfl
  case deadmanExpiry =>
    refine onExpiry_keeps h part (fun t k => ?_) e
    exact Fits.onFlight (hP.rests _ _ _ k) rfl
  case launchTimerExpiry =>
    refine onExpiry_keeps h part (fun t k => OnFlight.raiseCause hP _ ?_) e
    exact Fits.onFlight (hP.timersEnd none t.fc.settleTimer _ _ _ (.inr rfl) (.inl rfl) k) rfl
  case settleTimerExpiry =>
    refine onExpiry_keeps h part (fun t k => OnFlight.raiseCause hP _ ?_) e
    exact Fits.onFlight (hP.timersEnd t.fc.launchTimer none _ _ _ (.inl rfl) (.inr rfl) k) rfl
  case stateFrame w bs =>
    refine whileRunning_keeps h ?_ e
    obtain ⟨l, hl⟩ := linkBytes_lengths w bs s
    refine h.of_eq (by rw [hl]) (by rw [hl]; rfl) (congrArg Ct.shots ?_)
    exact (ChangesOnly.foldl (fun t b => changes_linkByte w b t) bs s).ct
  case changeReportCt =>
    unfold execChangeReportCt at e
    split at e
    · cases e; exact h
    · refine whileRunning_keeps h ?_ e
      refine OnFlight.recomputeCues hP ?_
      exact h.of_eq rfl rfl rfl
  case allowanceReport =>
    unfold execAllowanceReport at e
    split at e
    · cases e; exact h
    · refine whileRunning_keeps h ?_ e
      refine OnFlight.recomputeCues hP ?_
      exact h.of_eq rfl rfl rfl
  case changeReportFc =>
    refine takeFc_keeps h chan (fun m f hf t k => ?_) e
    split at hf
    · cases hf; exact k.takeChangeReport hP _
    · cases hf
  case zoneSummary =>
    refine takeFc_keeps h chan (fun m f hf t k => ?_) e
    split at hf
    · cases hf; exact k.takeSummary hP _ _
    · cases hf
  case stopCauseRaise b =>
    refine takeFc_keeps h chan (fun m f hf t k => ?_) e
    split at hf
    · cases hf; exact k.raiseCause hP _
    · cases hf
  case stopCauseClear b =>
    refine takeFc_keeps h chan (fun m f hf t k => ?_) e
    split at hf
    · cases hf; exact k.clearCause hP _
    · cases hf
  case driveStatus =>
    refine takeFc_keeps h chan (fun m f hf t k => ?_) e
    split at hf
    · cases hf; exact k.takeDriveStatus hP _ _
    · cases hf
  case linkState =>
    refine takeFc_keeps h chan (fun m f hf t k => ?_) e
    split at hf
    · cases hf; exact k.of_eq rfl rfl rfl
    · cases hf
  case hotFlag =>
    refine takeFc_keeps h chan (fun m f hf t k => ?_) e
    split at hf
    · cases hf; exact k.takeHot hP _
    · cases hf
  case highFlag =>
    refine takeFc_keeps h chan (fun m f hf t k => ?_) e
    split at hf
    · cases hf; exact k.of_eq rfl rfl rfl
    · cases hf
  case warmFlag =>
    refine takeFc_keeps h chan (fun m f hf t k => ?_) e
    split at hf
    · cases hf; exact k.of_eq rfl rfl rfl
    · cases hf
  all_goals first
    | (cases hc; done)
    | exact h.of_fc_ct changes.fc changes.ct

theorem OnFlight.exec {c : Instr} (hs : ShotQueueSound s) (h : OnFlight P s)
    (hv : P s.fc.mode { s.fc.records with v := (stepMotion s.cs.record { s.fc with servo := s.fc.servo + 5 } s.lm.a).v } s.ct.shots)
    (e : exec c s = .next u) : OnFlight P u := by
  cases hc : isRequest c with
  | false => exact h.event hP hc hv e
  | true =>
    obtain ⟨r, p, rfl⟩ := command_of_isRequest hc
    obtain k | ⟨r', -, -, k⟩ := exec_command_cases r p s
    · rw [k] at e; cases e; exact h
    · rw [k] at e; cases e; exact h.served hP hs p r'

end

/-! ## The shot queue stays sound -/

/-- The head has a status. -/
def Shots.headIs (status : EntryStatus) (q : Shots) : Prop := ∃ e, q.queue.head? = some e ∧ e.status = status

/-- The shot queue of a mode (R96, R97). -/
structure QueueFits (m : Mode) (q : Shots) : Prop where
  length : q.queue.length ≤ 6
  tail : ∀ e ∈ q.queue.tail, e.status = .waiting
  stands : ∀ e ∈ q.queue, q.stands e.handle e.generation
  running : q.headIs .running ↔ m = .cue
  halted : q.headIs .blocked ∨ q.headIs .cut ∨ q.headIs .aborted → q.halted = true

theorem headIs_iff (status : EntryStatus) (t : Ct) : headIs status t = true ↔ t.shots.headIs status := by
  cases h : t.queue <;> simp [headIs, Shots.headIs, Ct.shots, h]

theorem shotQueueSound_iff (s : State) : ShotQueueSound s ↔ QueueFits s.fc.mode s.ct.shots := by
  simp only [ShotQueueSound, headIs_iff]
  exact ⟨fun ⟨h1, h2, h3, h4, h5⟩ => ⟨h1, h2, h3, h4, h5⟩, fun ⟨h1, h2, h3, h4, h5⟩ => ⟨h1, h2, h3, h4, h5⟩⟩

section
variable {m m' : Mode} {q q' : Shots}

/-- Two modes other than CUE bear on the queue alike. -/
theorem QueueFits.other (h : QueueFits m q) (hm : m ≠ .cue) (hm' : m' ≠ .cue) : QueueFits m' q :=
  ⟨h.length, h.tail, h.stands, h.running.trans (by simp [hm, hm']), h.halted⟩

/-- The head takes a status. -/
theorem QueueFits.setHead {status : EntryStatus} {b : Bool} (h : QueueFits m q) (hrun : status = .running ↔ m' = .cue) (hq : q.queue ≠ [] ∨ m' ≠ .cue)
    (hhalt : status = .blocked ∨ status = .cut ∨ status = .aborted → b = true) :
    QueueFits m' { q with queue := setHead status q.queue, halted := b } := by
  obtain ⟨hlength, htail, hstands, -, -⟩ := h
  cases hqueue : q.queue with
  | nil =>
    have hm : m' ≠ .cue := hq.resolve_left (by simp [hqueue])
    constructor <;> simp [Machine.setHead, Shots.headIs, hm]
  | cons e rest =>
    simp only [hqueue, List.length_cons, List.tail_cons, List.mem_cons] at hlength htail hstands
    refine ⟨hlength, htail, ?_, ?_, ?_⟩
    · intro e' he'
      obtain rfl | he' := List.mem_cons.mp he'
      · exact hstands e (.inl rfl)
      · exact hstands e' (.inr he')
    · simpa [Machine.setHead, Shots.headIs] using hrun
    · simpa [Machine.setHead, Shots.headIs] using hhalt

/-- Entries after the head are left. -/
theorem QueueFits.losesHead (h : QueueFits m q) (hw : q.Within q') (ht : q'.queue.Sublist q.queue.tail) (hm : m' ≠ .cue) :
    QueueFits m' q' := by
  have waits : ∀ e ∈ q'.queue, e.status = .waiting := fun e he => h.tail e (ht.subset he)
  have head (status : EntryStatus) (hst : q'.headIs status) : status = .waiting := by
    obtain ⟨e, he, rfl⟩ := hst
    exact waits e (List.mem_of_mem_head? he)
  refine ⟨?_, ?_, ?_, ?_, ?_⟩
  · exact Nat.le_trans hw.sublist.length_le h.length
  · exact fun e he => waits e (List.mem_of_mem_tail he)
  · exact fun e he => hw.stands e he (h.stands e (hw.sublist.subset he))
  · exact ⟨fun k => absurd (head _ k) (by simp), fun k => absurd k hm⟩
  · rintro (k | k | k) <;> exact absurd (head _ k) (by simp)

/-- The head and some entries after it are left. -/
theorem QueueFits.keepsHead (h : QueueFits m q) (hw : q.Within q') (hhead : q'.queue.head? = q.queue.head?) (hh : q'.halted = q.halted) :
    QueueFits m q' := by
  have same (status : EntryStatus) : q'.headIs status ↔ q.headIs status := by simp only [Shots.headIs, hhead]
  refine ⟨?_, ?_, ?_, ?_, ?_⟩
  · exact Nat.le_trans hw.sublist.length_le h.length
  · intro e he
    cases hq' : q'.queue with
    | nil => simp [hq'] at he
    | cons e' rest =>
      cases hq : q.queue with
      | nil => simp [hq, hq'] at hhead
      | cons e'' rest' =>
        have sub := hw.sublist
        simp only [hq, hq', List.head?_cons, Option.some.injEq] at hhead sub
        subst hhead
        refine h.tail e ?_
        rw [hq]
        exact (List.cons_sublist_cons.mp sub).subset (by simpa [hq'] using he)
  · exact fun e he => hw.stands e he (h.stands e (hw.sublist.subset he))
  · exact (same _).trans h.running
  · simpa only [same, hh] using h.halted

/-- An entry joins the tail. -/
theorem QueueFits.adds {e : QueueEntry} (h : QueueFits m q) (hl : q.queue.length < 6) (he : e.status = .waiting)
    (hst : q.stands e.handle e.generation) : QueueFits m { q with queue := q.queue ++ [e] } := by
  obtain ⟨-, htail, hstands, hrun, hhalt⟩ := h
  have names : ∀ e' ∈ q.queue ++ [e], q.stands e'.handle e'.generation := by
    intro e' he'
    obtain he' | he' := List.mem_append.mp he'
    · exact hstands e' he'
    · rwa [List.mem_singleton.mp he']
  cases hq : q.queue with
  | nil =>
    have hm : m ≠ .cue := by simpa [Shots.headIs, hq] using hrun
    exact ⟨by simp, by simp, by simpa [hq] using names, by simp [Shots.headIs, he, hm], by simp [Shots.headIs, he]⟩
  | cons e0 rest =>
    rw [hq] at names hl
    refine ⟨by rw [List.length_append]; exact hl, ?_, names, ?_, ?_⟩
    · intro e' he'
      obtain he' | he' := List.mem_append.mp he'
      · exact htail e' (by simpa [hq] using he')
      · rwa [List.mem_singleton.mp he']
    · simpa [Shots.headIs, hq] using hrun
    · simpa [Shots.headIs, hq] using hhalt

end

/-- The queue's part of flight's invariant. -/
theorem queue_invariant : FlightInvariant (fun m _ q => QueueFits m q) where
  starts _ _ := by constructor <;> constructor <;> simp [Shots.headIs]
  closesJog _ _ h := h.other (by simp) (by simp)
  closesCue st _ _ hst h := h.setHead (by obtain rfl | rfl := hst <;> simp) (.inr (by simp)) fun _ => rfl
  closesLeg m _ _ hm h := by
    refine h.other ?_ (by simp)
    rintro rfl
    simp [Mode.isLeg] at hm
  closesEvict _ _ h := h.other (by simp) (by simp)
  settled _ _ h := h
  noEvict _ _ _ _ h := h
  clears m _ _ hm h := by
    refine h.other ?_ (by simp)
    rintro rfl
    simp at hm
  evicts _ m _ _ hm h := by
    refine h.other ?_ (by simp)
    rintro rfl
    simp at hm
  begins _ _ m _ _ _ hm h := by
    refine h.other ?_ (by simp)
    rintro rfl
    simp [Mode.isLeg] at hm
  blocks _ _ h := h.setHead (by simp) (.inr (by simp)) fun _ => rfl
  runs _ _ _ hq h := h.setHead (by simp) (.inl hq) (by simp)
  retakes _ _ h := h.setHead (by simp) (.inr (by simp)) (by simp)
  losesHead _ _ _ _ hm hw ht h := h.losesHead hw ht hm
  losesRun _ _ _ hw ht h := h.losesHead hw ht (by simp)
  keepsHead _ _ _ _ hw hhead hh h := h.keepsHead hw hhead hh
  adds _ _ _ _ hl he hst h := h.adds hl he hst
  jogs _ _ m _ _ hm _ h := by
    refine h.other ?_ (by simp)
    rintro rfl
    simp at hm
  rests _ _ _ h := h
  timersEnd _ _ _ _ _ _ _ h := h
  launches _ _ _ h := h.other (by simp) (by simp)
  settles _ _ _ h := h.other (by simp) (by simp)
  parks m _ _ hm h := by
    refine h.other ?_ (by simp)
    rintro rfl
    simp at hm
  resumes _ _ h := h.other (by simp) (by simp)
  stops _ _ _ m _ q _ hm h := by
    have other : QueueFits .stopped q := by
      refine h.other ?_ (by simp)
      rintro rfl
      simp at hm
    exact ⟨other.length, other.tail, other.stands, other.running, fun _ => rfl⟩
  raises _ _ _ _ h := h
  marks _ _ _ _ _ h := h

/-- Settles O37: no step of flight or of CT takes the queue out of what its mode allows. -/
theorem shotQueueStaysSound : Obligations.ShotQueueStaysSound := by
  unfold Obligations.ShotQueueStaysSound
  refine Kept.of_exec (fun _ _ h => h) (fun _ _ h => h) fun c s u h e => ?_
  have fits := (shotQueueSound_iff s).mp h
  exact (shotQueueSound_iff u).mpr (OnFlight.exec queue_invariant h fits fits e)

end Sys2Proof.Machine
end

section
/-! PROOF. Integer square roots and enclosures at zero; the modes in which V is zero; the settling of O47. -/

namespace Sys2Proof

/-! ## Square roots -/

theorem isqrtAux_spec (fuel n : Nat) (h : n < 4 ^ fuel) : isqrtAux fuel n ^ 2 ≤ n ∧ n < (isqrtAux fuel n + 1) ^ 2 := by
  induction fuel generalizing n with
  | zero =>
    obtain rfl : n = 0 := Nat.lt_one_iff.mp h
    decide
  | succ fuel ih =>
    obtain ⟨below, above⟩ := ih (n / 4) (by rw [Nat.pow_succ] at h; omega)
    unfold isqrtAux
    generalize isqrtAux fuel (n / 4) = r at below above
    have lower : (2 * r) ^ 2 ≤ n := by
      have : (2 * r) ^ 2 = 4 * r ^ 2 := by grind
      omega
    have upper : n < (2 * r + 1 + 1) ^ 2 := by
      have : (2 * r + 1 + 1) ^ 2 = 4 * (r + 1) ^ 2 := by grind
      omega
    split
    · next hodd => exact ⟨hodd, upper⟩
    · next hodd => exact ⟨lower, Nat.lt_of_not_le hodd⟩

theorem isqrt_spec (n : Nat) : isqrt n ^ 2 ≤ n ∧ n < (isqrt n + 1) ^ 2 := by
  refine isqrtAux_spec _ _ (Nat.lt_of_lt_of_le Nat.lt_log2_self ?_)
  rw [show (4 : Nat) = 2 ^ 2 from rfl, ← Nat.pow_mul]
  exact Nat.pow_le_pow_right (by omega) (by omega)

theorem isqrt_sq_le (n : Nat) : isqrt n ^ 2 ≤ n := (isqrt_spec n).1

theorem lt_isqrt_succ_sq (n : Nat) : n < (isqrt n + 1) ^ 2 := (isqrt_spec n).2

theorem le_isqrt {m n : Nat} : m ≤ isqrt n ↔ m ^ 2 ≤ n := by
  constructor
  · exact fun h => Nat.le_trans (Nat.pow_le_pow_left h 2) (isqrt_sq_le n)
  · intro h
    refine Nat.le_of_not_lt fun hlt => ?_
    have : (isqrt n + 1) ^ 2 ≤ m ^ 2 := Nat.pow_le_pow_left hlt 2
    have := lt_isqrt_succ_sq n
    omega

/-- The root rounded up is within one of the root rounded down, and its square is not below. -/
theorem le_csqrt_sq (n : Nat) : n ≤ csqrt n ^ 2 := by
  unfold csqrt
  split
  · next h => exact Nat.le_of_eq h.symm
  · exact Nat.le_of_lt (lt_isqrt_succ_sq n)

theorem isqrt_le_csqrt (n : Nat) : isqrt n ≤ csqrt n := by
  unfold csqrt
  split <;> omega

theorem csqrt_zero : csqrt 0 = 0 := rfl

/-! ## Enclosures at zero -/

theorem ceilDiv_zero (b : Int) : ceilDiv 0 b = 0 := by simp [ceilDiv]

theorem Iv.ofInt_zero : Iv.ofInt 0 = ⟨0, 0⟩ := rfl

theorem Iv.mul_zero (a : Iv) : a.mul ⟨0, 0⟩ = ⟨0, 0⟩ := by simp [Iv.mul, Iv.mulWide, ceilDiv_zero]

theorem Iv.zero_div (a : Iv) : Iv.div ⟨0, 0⟩ a = ⟨0, 0⟩ := by simp [Iv.div, ceilDiv_zero]

theorem IvVec.ofVec_zero : IvVec.ofVec .zero = ⟨⟨0, 0⟩, ⟨0, 0⟩, ⟨0, 0⟩⟩ := rfl

theorem IvVec.scale_zero (k : Iv) : IvVec.scale k ⟨⟨0, 0⟩, ⟨0, 0⟩, ⟨0, 0⟩⟩ = ⟨⟨0, 0⟩, ⟨0, 0⟩, ⟨0, 0⟩⟩ := by
  simp only [IvVec.scale, Iv.mul_zero]

theorem IvVec.round_zero (site : TieSite) : IvVec.round site ⟨⟨0, 0⟩, ⟨0, 0⟩, ⟨0, 0⟩⟩ = .zero := by
  have zero : Iv.round site ⟨0, 0⟩ = 0 := rfl
  simp only [IvVec.round, zero]
  rfl

/-- A product of enclosures that do not reach below zero does not. -/
theorem Iv.mul_lo_nonneg {a b : Iv} (ha : 0 ≤ a.lo) (ha' : 0 ≤ a.hi) (hb : 0 ≤ b.lo) (hb' : 0 ≤ b.hi) : 0 ≤ (a.mul b).lo := by
  refine Int.ediv_nonneg ?_ (by decide)
  exact Int.le_min.mpr ⟨Int.le_min.mpr ⟨Int.mul_nonneg ha hb, Int.mul_nonneg ha hb'⟩,
    Int.le_min.mpr ⟨Int.mul_nonneg ha' hb, Int.mul_nonneg ha' hb'⟩⟩

end Sys2Proof

namespace Sys2Proof.Machine

set_option Elab.async false

/-! ## The stages of a servo step at zero -/

/-- V at zero stays there under a demand of zero. -/
theorem rateLimited_zero (c : MotionCfg) : rateLimited c (.vec .zero) .zero = .zero := by
  have still : (Demand.vec .zero).enclosed.sub (IvVec.ofVec .zero) = ⟨⟨0, 0⟩, ⟨0, 0⟩, ⟨0, 0⟩⟩ := rfl
  unfold rateLimited
  dsimp only
  rw [still, IvVec.scale_zero]
  have sum : (IvVec.ofVec .zero).add ⟨⟨0, 0⟩, ⟨0, 0⟩, ⟨0, 0⟩⟩ = ⟨⟨0, 0⟩, ⟨0, 0⟩, ⟨0, 0⟩⟩ := rfl
  rw [sum]
  have both (p : Prop) [Decidable p] : (if p then (Demand.vec .zero).enclosed.round .velocity
      else IvVec.round .velocity ⟨⟨0, 0⟩, ⟨0, 0⟩, ⟨0, 0⟩⟩) = .zero := by
    split <;> exact IvVec.round_zero _
  exact both _

/-- The margin of a pair is not below zero. -/
theorem margin_nonneg (g : GeometryCfg) (e z : Box) : 0 ≤ (margin g e z).lo ∧ 0 ≤ (margin g e z).hi := by
  unfold margin
  dsimp only
  generalize (gaps e z).norm2 = n
  split
  · decide
  · next hn =>
    have root : ((1000 * g.standoff).natAbs * ivUnit.toNat : Nat) ≤ isqrt (n * ivUnit.toNat ^ 2) := by
      rw [le_isqrt, Nat.mul_pow]
      have square : ((1000 * g.standoff).natAbs ^ 2 : Nat) = (1000 * g.standoff) ^ 2 := by
        rw [Int.natCast_pow, Int.natAbs_pow_two]
      exact Nat.mul_le_mul_right _ (by omega)
    have upper := isqrt_le_csqrt (n * ivUnit.toNat ^ 2)
    have unit : ((ivUnit.toNat : Nat) : Int) = ivUnit := rfl
    have pos : (0 : Int) < ivUnit := by decide
    have bound : 1000 * g.standoff * ivUnit ≤ (isqrt (n * ivUnit.toNat ^ 2) : Int) := by
      refine Int.le_trans (Int.mul_le_mul_of_nonneg_right Int.le_natAbs (Int.le_of_lt pos)) ?_
      rw [← unit, ← Int.natCast_mul]
      exact Int.ofNat_le.mpr root
    simp only [Iv.sub, Iv.add, Iv.neg, Iv.ofSqrt, Iv.ofInt]
    constructor <;> omega

theorem approachLimit_nonneg (decel : Int) {m : Iv} (h : 0 ≤ m.lo) (h' : 0 ≤ m.hi) : 0 ≤ (approachLimit decel m).lo :=
  Int.le_min.mpr ⟨Int.natCast_nonneg _, Iv.mul_lo_nonneg (by decide) (by decide) h h'⟩

/-- Approach limiting leaves V at zero. -/
theorem limitToward_zero (g : GeometryCfg) (decel : Int) (e : Box) (z : ForceZone) : limitToward g decel e .zero z = .zero := by
  obtain ⟨hlo, hhi⟩ := margin_nonneg g e (boxUm z.box)
  have limit := approachLimit_nonneg decel hlo hhi
  have still (c : Vec3) : (Vec3.zero.x * c.x + Vec3.zero.y * c.y + Vec3.zero.z * c.z) = 0 := by simp [Vec3.zero]
  unfold limitToward
  dsimp only
  rw [still, Iv.ofInt_zero, Iv.zero_div, if_pos]
  simp only [Iv.sub, Iv.add, Iv.neg]
  omega

theorem approachLimited_zero (g : GeometryCfg) (decel : Int) (zones : List ForceZone) (e : Box) :
    approachLimited g decel zones e .zero = .zero := by
  induction zones with
  | nil => rfl
  | cons z zones ih => rw [approachLimited, List.foldl_cons, limitToward_zero]; exact ih

/-- A step in a mode without demand leaves V at zero. -/
theorem stepMotion_v_of_still (r : Record) {f : Fc} (a : Int) (hm : f.mode.still = true) (hv : f.v = .zero) :
    (stepMotion r f a).v = .zero := by
  cases hp : f.p with
  | none => rw [stepMotion_of_none hp]
  | some p =>
    have demand : clippedDemand r.motion.decel (speedCap r.motion f).1 f p = .vec .zero := by
      unfold clippedDemand stepGoal
      cases hx : f.mode with
      | ret leg => cases leg <;> simp_all [Mode.still]
      | _ => simp_all [Mode.still]
    simp only [stepMotion, hp, demand, hv, rateLimited_zero, approachLimited_zero]
    split <;> rfl

/-! ## What flight keeps of its records -/

/-- The records of a mode (R65, R112, R126, R129, R130, R136, R139). -/
structure RecordsFit (m : Mode) (r : Records) : Prop where
  run : r.run.isSome = true ↔ m = .cue
  evict : r.evict.isSome = true ↔ m = .evict
  legGoal : r.legGoal.isSome = true ↔ m.isLeg = true
  deadman : r.deadman.isSome = true ↔ r.jogDemand ≠ .zero
  jogDemand : m ≠ .jog → r.jogDemand = .zero
  launchTimer : r.launchTimer.isSome = true → m = .launching ∨ m = .stopped
  settleTimer : r.settleTimer.isSome = true → m = .ret .settle ∨ m = .stopped

theorem modeRecordsSound_iff (s : State) : ModeRecordsSound s ↔ RecordsFit s.fc.mode s.fc.records :=
  ⟨fun ⟨h1, h2, h3, h4, h5, h6, h7⟩ => ⟨h1, h2, h3, h4, h5, h6, h7⟩, fun ⟨h1, h2, h3, h4, h5, h6, h7⟩ => ⟨h1, h2, h3, h4, h5, h6, h7⟩⟩

theorem isLeg_cases {m : Mode} (h : m.isLeg = true) : m = .ret .rise ∨ m = .ret .traverse ∨ m = .ret .descend := by
  cases m with
  | ret leg => cases leg <;> simp_all [Mode.isLeg]
  | _ => simp [Mode.isLeg] at h

/-- The records that HOLD has: nothing of another mode, and no timer. -/
theorem recordsFit_hold_iff (r : Records) : RecordsFit .hold r ↔
    r.run = none ∧ r.evict = none ∧ r.legGoal = none ∧ r.deadman = none ∧ r.jogDemand = .zero ∧ r.launchTimer = none ∧ r.settleTimer = none := by
  constructor
  case mp => intro ⟨h1, h2, h3, h4, h5, h6, h7⟩; simp_all [Mode.isLeg]
  case mpr => intro ⟨h1, h2, h3, h4, h5, h6, h7⟩; constructor <;> simp_all [Mode.isLeg]

theorem records_invariant : FlightInvariant (fun m r _ => RecordsFit m r) where
  starts _ _ := by constructor <;> constructor <;> simp [Fc.reset, Fc.records, Mode.isLeg, Vec3.zero]
  closesJog _ _ h := by
    obtain ⟨h1, h2, h3, h4, h5, h6, h7⟩ := h
    simp_all [recordsFit_hold_iff, Mode.isLeg]
  closesCue _ _ _ _ h := by
    obtain ⟨h1, h2, h3, h4, h5, h6, h7⟩ := h
    simp_all [recordsFit_hold_iff, Mode.isLeg]
  closesLeg m _ _ hm h := by
    obtain ⟨h1, h2, h3, h4, h5, h6, h7⟩ := h
    obtain rfl | hm := hm
    · simp_all [recordsFit_hold_iff, Mode.isLeg]
    · obtain rfl | rfl | rfl := isLeg_cases hm <;> simp_all [recordsFit_hold_iff, Mode.isLeg]
  closesEvict _ _ h := by
    obtain ⟨h1, h2, h3, h4, h5, h6, h7⟩ := h
    simp_all [recordsFit_hold_iff, Mode.isLeg]
  settled _ _ h := by
    obtain ⟨h1, h2, h3, h4, h5, h6, h7⟩ := h
    constructor <;> simp_all [Mode.isLeg]
  noEvict _ _ _ hm h := by
    obtain ⟨h1, h2, h3, h4, h5, h6, h7⟩ := h
    constructor <;> simp_all
  clears _ _ _ hm h := by
    obtain ⟨h1, h2, h3, h4, h5, h6, h7⟩ := h
    obtain rfl | rfl | ⟨rfl, hl⟩ := hm <;> simp_all [recordsFit_hold_iff, Records.cleared, Mode.isLeg]
  evicts _ _ _ _ hm h := by
    obtain ⟨h1, h2, h3, h4, h5, h6, h7⟩ := h
    obtain rfl | rfl := hm <;> constructor <;> simp_all [Mode.isLeg]
  begins leg _ m _ _ hl hm h := by
    obtain ⟨h1, h2, h3, h4, h5, h6, h7⟩ := h
    have fits : (Mode.ret leg).isLeg = true := by cases leg <;> first | rfl | exact absurd rfl hl
    obtain rfl | hm := hm
    · constructor <;> simp_all [Mode.isLeg]
    · obtain rfl | rfl | rfl := isLeg_cases hm <;> constructor <;> simp_all [Mode.isLeg]
  blocks _ _ h := h
  runs _ _ _ _ h := by
    obtain ⟨h1, h2, h3, h4, h5, h6, h7⟩ := h
    constructor <;> simp_all [Mode.isLeg]
  retakes _ _ h := h
  losesHead _ _ _ _ _ _ _ h := h
  losesRun _ _ _ _ _ h := by
    obtain ⟨h1, h2, h3, h4, h5, h6, h7⟩ := h
    simp_all [recordsFit_hold_iff, Records.cleared]
  keepsHead _ _ _ _ _ _ _ h := h
  adds _ _ _ _ _ _ _ h := h
  jogs _ _ _ _ _ hm hd h := by
    obtain ⟨h1, h2, h3, h4, h5, h6, h7⟩ := h
    obtain rfl | rfl := hm <;> constructor <;> simp_all [Mode.isLeg]
  rests _ _ _ h := by
    obtain ⟨h1, h2, h3, h4, h5, h6, h7⟩ := h
    constructor <;> simp_all
  timersEnd _ _ _ _ _ hlt hst h := by
    obtain ⟨h1, h2, h3, h4, h5, h6, h7⟩ := h
    refine ⟨h1, h2, h3, h4, h5, ?_, ?_⟩
    · obtain rfl | rfl := hlt
      · exact h6
      · simp
    · obtain rfl | rfl := hst
      · exact h7
      · simp
  launches _ _ _ h := by
    obtain ⟨h1, h2, h3, h4, h5, h6, h7⟩ := h
    constructor <;> simp_all [Mode.isLeg]
  settles _ _ _ h := by
    obtain ⟨h1, h2, h3, h4, h5, h6, h7⟩ := h
    constructor <;> simp_all [Mode.isLeg]
  parks _ _ _ hm h := by
    obtain ⟨h1, h2, h3, h4, h5, h6, h7⟩ := h
    obtain rfl | rfl := hm <;> constructor <;> simp_all [Mode.isLeg]
  resumes _ _ h := by
    obtain ⟨h1, h2, h3, h4, h5, h6, h7⟩ := h
    constructor <;> simp_all [Mode.isLeg]
  stops _ _ _ _ _ _ _ hm h := by
    obtain ⟨h1, h2, h3, h4, h5, h6, h7⟩ := h
    simp only [List.mem_cons, List.not_mem_nil, or_false] at hm
    obtain rfl | rfl | rfl | rfl := hm <;> constructor <;> simp_all [Records.stopped, Mode.isLeg]
  raises _ _ _ _ h := ⟨h.run, h.evict, h.legGoal, h.deadman, h.jogDemand, h.launchTimer, h.settleTimer⟩
  marks _ _ _ _ _ h := ⟨h.run, h.evict, h.legGoal, h.deadman, h.jogDemand, h.launchTimer, h.settleTimer⟩

/-! ## The stop causes -/

/-- STOPPED exactly with causes, each once, and live only where a line or a monitor holds it (R143). -/
structure CausesFit (m : Mode) (causes : List CauseEntry) : Prop where
  stopped : m = .stopped ↔ causes ≠ []
  nodup : (causes.map CauseEntry.cause).Nodup
  live : ∀ e ∈ causes, e.live = true → e.cause.enteredLive = true

theorem causesFit_iff (s : State) : StoppedExactlyWithCauses s ∧ CauseSetSound s ↔ CausesFit s.fc.mode s.fc.causes :=
  ⟨fun ⟨h1, h2, h3⟩ => ⟨h1, h2, h3⟩, fun ⟨h1, h2, h3⟩ => ⟨h1, h2, h3⟩⟩

/-- Two modes other than STOPPED bear on the causes alike. -/
theorem CausesFit.other {m m' : Mode} {causes : List CauseEntry} (h : CausesFit m causes) (hm : m ≠ .stopped) (hm' : m' ≠ .stopped) :
    CausesFit m' causes :=
  ⟨by rw [← h.stopped]; simp [hm, hm'], h.nodup, h.live⟩

/-- A cause that the set lacks is entered. -/
theorem CausesFit.enter {m : Mode} {r : Records} {c : Cause} (h : CausesFit m r.causes) (hc : r.lacks c) :
    CausesFit .stopped (r.causes ++ [{ cause := c, live := c.enteredLive }]) := by
  refine ⟨by simp, ?_, ?_⟩
  · rw [List.map_append, List.nodup_append]
    refine ⟨h.nodup, by simp, ?_⟩
    intro a ha b hb
    obtain ⟨e, he, rfl⟩ := List.mem_map.mp ha
    obtain rfl : b = c := by simpa using hb
    exact hc e he
  · intro e he
    obtain he | he := List.mem_append.mp he
    · exact h.live e he
    · obtain rfl : e = { cause := c, live := c.enteredLive } := by simpa using he
      exact id

theorem causes_invariant : FlightInvariant (fun m r _ => CausesFit m r.causes) where
  starts _ _ := by
    constructor <;> constructor <;> simp [Fc.reset, Fc.records, Cause.enteredLive]
  closesJog _ _ h := h.other (by simp) (by simp)
  closesCue _ _ _ _ h := h.other (by simp) (by simp)
  closesLeg m _ _ hm h := by
    refine h.other ?_ (by simp)
    rintro rfl
    simp [Mode.isLeg] at hm
  closesEvict _ _ h := h.other (by simp) (by simp)
  settled _ _ h := h
  noEvict _ _ _ _ h := h
  clears m _ _ hm h := by
    refine h.other ?_ (by simp)
    rintro rfl
    simp at hm
  evicts _ m _ _ hm h := by
    refine h.other ?_ (by simp)
    rintro rfl
    simp at hm
  begins _ _ m _ _ _ hm h := by
    refine h.other ?_ (by simp)
    rintro rfl
    simp [Mode.isLeg] at hm
  blocks _ _ h := h
  runs _ _ _ _ h := h.other (by simp) (by simp)
  retakes _ _ h := h
  losesHead _ _ _ _ _ _ _ h := h
  losesRun _ _ _ _ _ h := h.other (by simp) (by simp)
  keepsHead _ _ _ _ _ _ _ h := h
  adds _ _ _ _ _ _ _ h := h
  jogs _ _ m _ _ hm _ h := by
    refine h.other ?_ (by simp)
    rintro rfl
    simp at hm
  rests _ _ _ h := h
  timersEnd _ _ _ _ _ _ _ h := h
  launches _ _ _ h := h.other (by simp) (by simp)
  settles _ _ _ h := h.other (by simp) (by simp)
  parks m _ _ hm h := by
    refine h.other ?_ (by simp)
    rintro rfl
    simp at hm
  resumes _ _ _ := ⟨by simp, by simp, by simp⟩
  stops _ _ _ _ _ _ hc _ h := h.enter hc
  raises _ _ _ hc h := h.enter hc
  marks c b m r _ h := by
    obtain ⟨hstopped, hnodup, hlive⟩ := h
    refine ⟨by simpa using hstopped, ?_, ?_⟩
    · rw [List.map_map]
      have same : (CauseEntry.cause ∘ fun e : CauseEntry => if e.cause = c ∧ c.enteredLive = true then { e with live := b } else e) =
          CauseEntry.cause := by
        funext e
        simp only [Function.comp]
        split <;> rfl
      rwa [same]
    · intro e he hl
      obtain ⟨e', he', rfl⟩ := List.mem_map.mp he
      by_cases hc : e'.cause = c ∧ c.enteredLive = true
      · rw [if_pos hc] at hl ⊢
        exact hc.1 ▸ hc.2
      · rw [if_neg hc] at hl ⊢
        exact hlive e' he' hl

/-! ## The modes in which V is zero -/

theorem still_invariant : FlightInvariant (fun m r _ => m.still = true → r.v = .zero) where
  starts _ _ := ⟨fun _ => rfl, fun _ => rfl⟩
  closesJog _ _ _ hm := by cases hm
  closesCue _ _ _ _ _ hm := by cases hm
  closesLeg _ _ _ _ _ hm := by cases hm
  closesEvict _ _ _ hm := by cases hm
  settled _ _ h := h
  noEvict _ _ _ _ h := h
  clears _ _ _ _ _ hm := by cases hm
  evicts _ _ _ _ _ _ hm := by cases hm
  begins leg _ _ _ _ hl _ _ hm := by
    cases leg with
    | settle => exact absurd rfl hl
    | _ => cases hm
  blocks _ _ h := h
  runs _ _ _ _ _ hm := by cases hm
  retakes _ _ h := h
  losesHead _ _ _ _ _ _ _ h := h
  losesRun _ _ _ _ _ _ hm := by cases hm
  keepsHead _ _ _ _ _ _ _ h := h
  adds _ _ _ _ _ _ _ h := h
  jogs _ _ _ _ _ _ _ _ hm := by cases hm
  rests _ _ _ h := h
  timersEnd _ _ _ _ _ _ _ h := h
  launches _ _ _ _ _ := rfl
  settles _ _ _ _ _ := rfl
  parks _ _ _ _ _ _ := rfl
  resumes _ _ _ _ := rfl
  stops _ _ _ _ _ _ _ _ _ _ := rfl
  raises _ _ _ _ h := h
  marks _ _ _ _ _ h := h

/-- Settles O47: the queue, the causes and the records are each kept by all that flight does. -/
theorem flightStaysSound : Obligations.FlightStaysSound := by
  unfold Obligations.FlightStaysSound
  refine Kept.of_exec (fun _ _ h => h) (fun _ _ h => h) fun c s u ⟨hq, hstopped, hset, hrecords⟩ e => ?_
  have queue := (shotQueueSound_iff s).mp hq
  have causes := (causesFit_iff s).mp ⟨hstopped, hset⟩
  have records := (modeRecordsSound_iff s).mp hrecords
  have records' : RecordsFit u.fc.mode u.fc.records :=
    OnFlight.exec records_invariant hq records ⟨records.run, records.evict, records.legGoal, records.deadman, records.jogDemand,
      records.launchTimer, records.settleTimer⟩ e
  obtain ⟨stopped', set'⟩ := (causesFit_iff u).mpr (OnFlight.exec causes_invariant hq causes causes e)
  exact ⟨(shotQueueSound_iff u).mpr (OnFlight.exec queue_invariant hq queue queue e), stopped', set', (modeRecordsSound_iff u).mpr records'⟩

end Sys2Proof.Machine
end

section
/-! PROOF. The Zone Table at work: what each pass does to a slot and to the pending queue. -/

namespace Sys2Proof.Machine

set_option Elab.async false

/-! ## Slots and the queue -/

/-- The pending queue of a table (R56). -/
structure Zt.QueueOk (t : Zt) : Prop where
  nodup : t.queue.Nodup
  length : t.queue.length ≤ 8
  mem : ∀ h, h ∈ t.queue ↔ t.stateOf h = some .pending

theorem pendingQueueSound_iff (s : State) : PendingQueueSound s ↔ s.zt.QueueOk :=
  ⟨fun ⟨h1, h2, h3⟩ => ⟨h1, h2, h3⟩, fun ⟨h1, h2, h3⟩ => ⟨h1, h2, h3⟩⟩

/-- A table at work differs in its zones and its queue alone. -/
structure Zt.Works (t u : Zt) : Prop where
  rest : u = { t with slots := u.slots, queue := u.queue }
  generation : ∀ h : ZoneHandle, u.slots[h].generation = t.slots[h].generation

theorem Zt.Works.refl (t : Zt) : t.Works t := ⟨rfl, fun _ => rfl⟩

theorem Zt.Works.trans {t u v : Zt} (h : t.Works u) (k : u.Works v) : t.Works v := by
  refine ⟨?_, fun j => (k.generation j).trans (h.generation j)⟩
  rw [k.rest, h.rest]

theorem Zt.Works.report {t u : Zt} (h : t.Works u) : u.report = t.report := by rw [h.rest]

theorem Zt.Works.clearanceTo {t u : Zt} (h : t.Works u) (g : GeometryCfg) (b : Box) : u.clearanceTo g b = t.clearanceTo g b := by
  simp only [Zt.clearanceTo, h.report]

/-- A pass over one handle: no other slot differs. -/
structure ZtWork.Only (h : ZoneHandle) (w u : ZtWork) : Prop where
  works : w.zt.Works u.zt
  other : ∀ j, j ≠ h → u.zt.zone j = w.zt.zone j

theorem ZtWork.Only.refl (h : ZoneHandle) (w : ZtWork) : ZtWork.Only h w w := ⟨.refl _, fun _ _ => rfl⟩

theorem ZtWork.change_only (w : ZtWork) (h : ZoneHandle) (cls : ZoneClass) (kind : ChangeKind) (after : Option Zone) :
    ZtWork.Only h w (w.change h cls kind after) :=
  ⟨⟨rfl, fun j => w.generation_change h j cls kind after⟩, fun _ hj => w.zone_change_other cls kind after hj⟩

theorem Zt.works_setZone (t : Zt) (h : ZoneHandle) (z : Option Zone) : t.Works (t.setZone h z) :=
  ⟨rfl, fun j => t.generation_setZone h j z⟩

/-- A pass over the handles of a list. Each handle's zone is related to what it was as one pass relates it. -/
theorem ZtWork.foldl_only {f : ZtWork → ZoneHandle → ZtWork} {I : ZtWork → Prop} {R : Option Zone → Option Zone → Prop}
    (hf : ∀ (w : ZtWork) (h : ZoneHandle), ZtWork.Only h w (f w h)) (hI : ∀ w h, I w → I (f w h))
    (hR : ∀ w h, I w → R (w.zt.zone h) ((f w h).zt.zone h))
    (l : List ZoneHandle) (hl : l.Nodup) (w : ZtWork) (hw : I w) :
    I (l.foldl f w) ∧ w.zt.Works (l.foldl f w).zt ∧ (∀ h ∈ l, R (w.zt.zone h) ((l.foldl f w).zt.zone h)) ∧
    ∀ h, h ∉ l → (l.foldl f w).zt.zone h = w.zt.zone h := by
  induction l generalizing w with
  | nil => exact ⟨hw, .refl _, by simp, fun _ _ => rfl⟩
  | cons a l ih =>
    obtain ⟨ha, hl⟩ := List.nodup_cons.mp hl
    obtain ⟨inv, works, mem, other⟩ := ih hl (f w a) (hI w a hw)
    refine ⟨inv, (hf w a).works.trans works, fun h hh => ?_, fun h hh => ?_⟩
    · obtain rfl | hh := List.mem_cons.mp hh
      · rw [List.foldl_cons, other h ha]
        exact hR w h hw
      · have hne : h ≠ a := fun e => ha (e ▸ hh)
        rw [List.foldl_cons, ← (hf w a).other h hne]
        exact mem h hh
    · obtain ⟨hne, hh⟩ := not_or.mp (mt List.mem_cons.mpr hh)
      rw [List.foldl_cons, other h hh, (hf w a).other h hne]

/-- The queue after a change follows the state of the slot. -/
theorem ZtWork.change_queueOk {w : ZtWork} {h : ZoneHandle} {cls : ZoneClass} {kind : ChangeKind} {after : Option Zone} (hq : w.zt.QueueOk)
    (hroom : after.map Zone.state = some .pending → w.zt.stateOf h = some .pending ∨ w.zt.queue.length < 8) :
    (w.change h cls kind after).zt.QueueOk := by
  obtain ⟨nodup, length, mem⟩ := hq
  have same : (w.change h cls kind after).zt.stateOf h = after.map Zone.state := by
    rw [Zt.stateOf_eq, ZtWork.zone_change_same]
  have other (j : ZoneHandle) (hj : j ≠ h) : (w.change h cls kind after).zt.stateOf j = w.zt.stateOf j := by
    rw [Zt.stateOf_eq, ZtWork.zone_change_other _ _ _ _ hj, Zt.stateOf_eq]
  have queue : (w.change h cls kind after).zt.queue =
      if after.map Zone.state = some .pending then (if w.zt.stateOf h = some .pending then w.zt.queue else w.zt.queue ++ [h])
      else w.zt.queue.filter (· ≠ h) := by
    simp only [ZtWork.change, decide_eq_true_eq]
  by_cases hp : after.map Zone.state = some .pending
  · by_cases hw : w.zt.stateOf h = some .pending
    · rw [if_pos hp, if_pos hw] at queue
      refine ⟨queue ▸ nodup, queue ▸ length, fun j => ?_⟩
      rw [queue, mem]
      by_cases hj : j = h
      · subst hj
        rw [same, hw, hp]
      · rw [other j hj]
    · rw [if_pos hp, if_neg hw] at queue
      have hroom := (hroom hp).resolve_left hw
      have hnot : h ∉ w.zt.queue := fun k => hw ((mem h).mp k)
      refine ⟨?_, ?_, fun j => ?_⟩
      · rw [queue]
        exact List.nodup_append.mpr ⟨nodup, List.pairwise_singleton _ h, fun j hj k hk e => hnot (List.mem_singleton.mp hk ▸ e ▸ hj)⟩
      · rw [queue]
        rw [List.length_append]
        exact hroom
      · rw [queue, List.mem_append, mem, List.mem_singleton]
        by_cases hj : j = h
        · subst hj
          simp [same, hp]
        · simp [hj, other j hj]
  · rw [if_neg hp] at queue
    refine ⟨?_, ?_, fun j => ?_⟩
    · rw [queue]
      exact nodup.filter _
    · rw [queue]
      exact Nat.le_trans (List.length_filter_le _ _) length
    · rw [queue, List.mem_filter, mem]
      by_cases hj : j = h
      · subst hj
        simp [same, hp]
      · simp [hj, other j hj]

/-- A table whose zones have the states they had keeps its queue. -/
theorem Zt.QueueOk.of_states {t u : Zt} (h : t.QueueOk) (hq : u.queue = t.queue) (hs : ∀ j, u.stateOf j = t.stateOf j) : u.QueueOk :=
  ⟨hq ▸ h.nodup, hq ▸ h.length, fun j => by rw [hq, hs, h.mem]⟩

/-! ## The passes, zone by zone -/

/-- What the arming pass makes of a zone (R51). -/
def Zone.arming (g : GeometryCfg) (z : Zone) : Zone :=
  if z.state = .pending ∧ clearOf g.standoff z.clearance = true then { z with state := .armed } else z

theorem ZtWork.armOne_eq (g : GeometryCfg) (w : ZtWork) (h : ZoneHandle) :
    ZtWork.Only h w (w.armOne g h) ∧ (w.armOne g h).zt.zone h = (w.zt.zone h).map (Zone.arming g) ∧
    (w.zt.QueueOk → (w.armOne g h).zt.QueueOk) := by
  unfold ZtWork.armOne
  split
  · next z hz =>
    split
    · next hc =>
      refine ⟨w.change_only _ _ _ _, ?_, fun hq => ZtWork.change_queueOk hq (by simp)⟩
      rw [ZtWork.zone_change_same, hz, Option.map_some, Zone.arming, if_pos hc]
    · next hc => exact ⟨.refl _ _, by rw [hz, Option.map_some, Zone.arming, if_neg hc], id⟩
  · next hz => exact ⟨.refl _ _, by rw [hz]; rfl, id⟩

/-- A zone that a demotion takes (R52). -/
def Zone.demotes (g : GeometryCfg) (z : Zone) : Bool := decide (z.state = .armed) && below g.standoff z.clearance

theorem ZtWork.demoteOne_eq (g : GeometryCfg) (w : ZtWork) (h : ZoneHandle) :
    ZtWork.Only h w (w.demoteOne g h) ∧
    (w.demoteOne g h).zt.zone h = (w.zt.zone h).map (fun z =>
      if z.demotes g = true then (if w.zt.queue.length < pendingMax then { z with state := .pending } else z.leaving) else z) ∧
    (w.zt.QueueOk → (w.demoteOne g h).zt.QueueOk) := by
  unfold ZtWork.demoteOne
  split
  · next z hz =>
    have taken : z.demotes g = true ↔ z.state = .armed ∧ below g.standoff z.clearance = true := by simp [Zone.demotes]
    rw [hz, Option.map_some]
    split
    · next hc =>
      rw [if_pos (taken.mpr hc)]
      split
      · next hl => exact ⟨w.change_only _ _ _ _, ZtWork.zone_change_same _ _ _ _ _, fun hq => ZtWork.change_queueOk hq fun _ => .inr hl⟩
      · have only := w.change_only h z.cls .demote (some z.leaving)
        exact ⟨⟨only.works, only.other⟩, w.zone_change_same h z.cls .demote (some z.leaving),
          fun hq => ZtWork.change_queueOk (cls := z.cls) (kind := .demote) (after := some z.leaving) hq (by simp [Zone.leaving])⟩
    · next hc => exact ⟨.refl _ _, by rw [hz, if_neg (mt taken.mp hc)], id⟩
  · next hz => exact ⟨.refl _ _, by rw [hz]; rfl, id⟩

theorem ZtWork.placeOne_eq (g : GeometryCfg) (w : ZtWork) (h : ZoneHandle) :
    ZtWork.Only h w (w.placeOne g h) ∧
    (w.placeOne g h).zt.zone h = (w.zt.zone h).map (fun z =>
      if z.awaiting = true then
        (if (w.zt.entering g z).state = .armed ∨ w.zt.queue.length < pendingMax then w.zt.entering g z else { z with awaiting := false })
      else z) ∧
    (w.zt.QueueOk → (w.placeOne g h).zt.QueueOk) := by
  unfold ZtWork.placeOne
  split
  · next z hz =>
    rw [hz, Option.map_some]
    split
    · next ha =>
      dsimp only
      split
      · next hc =>
        refine ⟨w.change_only _ _ _ _, ZtWork.zone_change_same _ _ _ _ _, fun hq => ZtWork.change_queueOk hq fun hp => .inr ?_⟩
        refine hc.resolve_left fun ha => ?_
        rw [Option.map_some, ha] at hp
        cases hp
      · refine ⟨⟨w.zt.works_setZone _ _, fun j hj => Zt.zone_setZone_other _ _ hj⟩, Zt.zone_setZone_same _ _ _, fun hq => ?_⟩
        refine Zt.QueueOk.of_states (t := w.zt) hq rfl fun j => ?_
        by_cases hj : j = h
        · subst hj
          rw [Zt.stateOf_eq, Zt.stateOf_eq, Zt.zone_setZone_same, hz]
          rfl
        · rw [Zt.stateOf_eq, Zt.stateOf_eq, Zt.zone_setZone_other _ _ hj]
    · exact ⟨.refl _ _, hz, id⟩
  · next hz => exact ⟨.refl _ _, by rw [hz]; rfl, id⟩

/-- What the retirement makes of a zone (R76, R80). -/
def Zone.retires (clock : ClockValue) (z : Zone) : Bool := decide (z.expiry = some clock)

theorem ZtWork.retireOne_eq (w : ZtWork) (h : ZoneHandle) :
    ZtWork.Only h w (w.retireOne h) ∧ (w.retireOne h).zt.zone h = (w.zt.zone h).filter (fun z => !z.retires w.zt.clock) ∧
    (w.zt.QueueOk → (w.retireOne h).zt.QueueOk) := by
  unfold ZtWork.retireOne
  split
  · next z hz =>
    rw [hz]
    split
    · next he =>
      refine ⟨w.change_only _ _ _ _, ?_, fun hq => ZtWork.change_queueOk hq (by simp)⟩
      rw [ZtWork.zone_change_same, Option.filter_some_neg (by simp [Zone.retires, he])]
    · next he => exact ⟨.refl _ _, by rw [hz, Option.filter_some_pos (by simp [Zone.retires, he])], id⟩
  · next hz => exact ⟨.refl _ _, by rw [hz]; rfl, id⟩

theorem nodup_handles (n : Nat) : (handles n).Nodup := List.nodup_finRange n

theorem mem_handles {n : Nat} (h : Fin n) : h ∈ handles n := List.mem_finRange h

section
variable (g : GeometryCfg) (w : ZtWork)

/-- The arming pass on a sound queue: every PENDING zone that is clear is armed (R51). -/
theorem ZtWork.armingPass_zones (hq : w.zt.QueueOk) : (w.armingPass g).zt.QueueOk ∧ w.zt.Works (w.armingPass g).zt ∧
    ∀ h, (w.armingPass g).zt.zone h = (w.zt.zone h).map (Zone.arming g) := by
  obtain ⟨ok, works, mem, other⟩ := ZtWork.foldl_only (f := fun w h => w.armOne g h) (I := fun w => w.zt.QueueOk)
    (R := fun z z' => z' = z.map (Zone.arming g)) (fun w h => (w.armOne_eq g h).1) (fun w h => (w.armOne_eq g h).2.2)
    (fun w h _ => (w.armOne_eq g h).2.1) w.zt.queue hq.nodup w hq
  refine ⟨ok, works, fun h => ?_⟩
  by_cases hh : h ∈ w.zt.queue
  · exact mem h hh
  · refine (other h hh).trans ?_
    cases hz : w.zt.zone h with
    | none => rfl
    | some z =>
      have notPending : z.state ≠ .pending := fun hp => hh ((hq.mem h).mpr (by rw [Zt.stateOf_eq, hz, Option.map_some, hp]))
      rw [Option.map_some, Zone.arming, if_neg fun k => notPending k.1]

/-- The demotion: a zone that it takes becomes PENDING or leaves force (R52, R57). -/
theorem ZtWork.demotion_zones (hq : w.zt.QueueOk) : (w.demotion g).zt.QueueOk ∧ w.zt.Works (w.demotion g).zt ∧
    ∀ h, ∃ full : Bool, (w.demotion g).zt.zone h = (w.zt.zone h).map (fun z =>
      if z.demotes g = true then (if full then z.leaving else { z with state := .pending }) else z) := by
  obtain ⟨ok, works, mem, -⟩ := ZtWork.foldl_only (f := fun w h => w.demoteOne g h) (I := fun w => w.zt.QueueOk)
    (R := fun z z' => ∃ full : Bool, z' = z.map (fun z =>
      if z.demotes g = true then (if full then z.leaving else { z with state := .pending }) else z))
    (fun w h => (w.demoteOne_eq g h).1) (fun w h => (w.demoteOne_eq g h).2.2)
    (fun w h _ => by
      refine ⟨!decide (w.zt.queue.length < pendingMax), ?_⟩
      rw [(w.demoteOne_eq g h).2.1]
      congr 1
      funext z
      by_cases hl : w.zt.queue.length < pendingMax <;> simp [hl])
    (handles 48) (nodup_handles 48) w hq
  exact ⟨ok, works, fun h => mem h (mem_handles h)⟩

/-- The placement: a zone that awaits position enters force, or loses the flag where the queue is full (R59). -/
theorem ZtWork.placement_zones (hq : w.zt.QueueOk) : (w.placement g).zt.QueueOk ∧ w.zt.Works (w.placement g).zt ∧
    ∀ h, ∃ full : Bool, (w.placement g).zt.zone h = (w.zt.zone h).map (fun z =>
      if z.awaiting = true then
        (if (w.zt.entering g z).state = .armed ∨ full = false then w.zt.entering g z else { z with awaiting := false })
      else z) := by
  obtain ⟨⟨ok, -⟩, works, mem, -⟩ := ZtWork.foldl_only (f := fun w h => w.placeOne g h) (I := fun u => u.zt.QueueOk ∧ w.zt.Works u.zt)
    (R := fun z z' => ∃ full : Bool, z' = z.map (fun z =>
      if z.awaiting = true then
        (if (w.zt.entering g z).state = .armed ∨ full = false then w.zt.entering g z else { z with awaiting := false })
      else z))
    (fun w h => (w.placeOne_eq g h).1) (fun u h k => ⟨(u.placeOne_eq g h).2.2 k.1, k.2.trans (u.placeOne_eq g h).1.works⟩)
    (fun u h k => by
      refine ⟨!decide (u.zt.queue.length < pendingMax), ?_⟩
      rw [(u.placeOne_eq g h).2.1]
      congr 1
      funext z
      have entering : u.zt.entering g z = w.zt.entering g z := by simp only [Zt.entering, k.2.clearanceTo]
      rw [entering]
      by_cases hl : u.zt.queue.length < pendingMax <;> simp [hl])
    (handles 48) (nodup_handles 48) w ⟨hq, .refl _⟩
  exact ⟨ok, works, fun h => mem h (mem_handles h)⟩

/-- The retirement: the zones whose life is over are gone (R80). -/
theorem ZtWork.retirement_zones (hq : w.zt.QueueOk) : w.retirement.zt.QueueOk ∧ w.zt.Works w.retirement.zt ∧
    ∀ h, w.retirement.zt.zone h = (w.zt.zone h).filter (fun z => !z.retires w.zt.clock) := by
  obtain ⟨⟨ok, -⟩, works, mem, -⟩ := ZtWork.foldl_only (f := fun w h => w.retireOne h) (I := fun u => u.zt.QueueOk ∧ w.zt.Works u.zt)
    (R := fun z z' => z' = z.filter (fun z => !z.retires w.zt.clock))
    (fun w h => (w.retireOne_eq h).1) (fun u h k => ⟨(u.retireOne_eq h).2.2 k.1, k.2.trans (u.retireOne_eq h).1.works⟩)
    (fun u h k => by
      have clock : u.zt.clock = w.zt.clock := by rw [k.2.rest]
      rw [(u.retireOne_eq h).2.1, clock])
    (handles 48) (nodup_handles 48) w ⟨hq, .refl _⟩
  exact ⟨ok, works, fun h => mem h (mem_handles h)⟩

end

/-- A function on the zones in force. -/
theorem Zt.mapForce_zone (f : Zone → Zone) (t : Zt) (h : ZoneHandle) :
    (t.mapForce f).zone h = (t.zone h).map (fun z => if z.inForce then f z else z) := by
  simp [Zt.mapForce, Zt.zone]

theorem Zt.mapForce_works (f : Zone → Zone) (t : Zt) : t.Works (t.mapForce f) :=
  ⟨rfl, fun h => by simp [Zt.mapForce]⟩

/-- A function on the zones in force that keeps their states keeps the queue. -/
theorem Zt.mapForce_queueOk {f : Zone → Zone} {t : Zt} (hf : ∀ z, (f z).state = z.state) (hq : t.QueueOk) : (t.mapForce f).QueueOk := by
  refine hq.of_states rfl fun j => ?_
  rw [Zt.stateOf_eq, Zt.stateOf_eq, Zt.mapForce_zone, Option.map_map]
  congr 1
  funext z
  simp only [Function.comp]
  split
  · exact hf z
  · rfl

theorem Zone.updateRelation_eq (z : Zone) : z.updateRelation = { z with relation := z.updateRelation.relation } := by
  unfold Zone.updateRelation
  split
  · rfl
  · (repeat' split) <;> rfl

theorem inForce_iff (z : Zone) : z.inForce = true ↔ z.state ≠ .suspended := by simp [Zone.inForce]

/-! ## What the table hands on -/

/-- Handing on leaves the table as the work has it, but for the overflow flag. -/
theorem handOn_zt (w : ZtWork) (s : State) : (handOn w s).zt = { w.zt with overflow := w.zt.overflow || w.overflowed } := by
  have noted : (if w.overflowed then overflowMessages { s with zt := w.zt } else { s with zt := w.zt }).zt =
      { w.zt with overflow := w.zt.overflow || w.overflowed } := by
    cases ho : w.overflowed with
    | false => simp
    | true =>
      unfold overflowMessages
      cases hf : w.zt.overflow <;> simp
      rw [← hf]
  unfold handOn
  dsimp only
  split
  · exact noted
  · rw [handReport_zt, noted]

theorem Zt.setSubject_zone (g : GeometryCfg) (t : Zt) (h : ZoneHandle) : (t.setSubject g).zone h = t.zone h := rfl

/-- The table at work on a valid report, before the relations are updated. -/
def Zt.evaluating (g : GeometryCfg) (t : Zt) : ZtWork := (((t.computeClearances g).work.armingPass g).demotion g).placement g

/-- The table of a valid report after steps 1 to 7 of R49. -/
def Zt.evaluated (g : GeometryCfg) (t : Zt) : ZtWork :=
  { t.evaluating g with zt := (t.evaluating g).zt.updateRelations.setSubject g }

theorem evaluateReport_eq (s : State) :
    evaluateReport s =
      if (s.zt.evaluated s.cs.record.geometry).entries.isEmpty then handSummary (handOn (s.zt.evaluated s.cs.record.geometry) s)
      else handOn (s.zt.evaluated s.cs.record.geometry) s := rfl

theorem evaluateReport_zt (s : State) :
    (evaluateReport s).zt = { (s.zt.evaluated s.cs.record.geometry).zt with
      overflow := (s.zt.evaluated s.cs.record.geometry).zt.overflow || (s.zt.evaluated s.cs.record.geometry).overflowed } := by
  rw [evaluateReport_eq]
  split
  · rw [handSummary_zt, handOn_zt]
  · rw [handOn_zt]

theorem carryOut_zt (w : ZtWork) (s : State) :
    (carryOut w s).zt = { (w.settle s.cs.record.geometry).zt with
      overflow := (w.settle s.cs.record.geometry).zt.overflow || (w.settle s.cs.record.geometry).overflowed } := handOn_zt _ s

end Sys2Proof.Machine
end

section
/-! PROOF. The properties that every step of the Zone Table keeps, and the table's soundness among them (O27). -/

namespace Sys2Proof.Machine

set_option Elab.async false

/-! ## The edits of a request -/

/-- Two tables with the same zones, pending queue, subject and report. -/
structure Zt.Same (t u : Zt) : Prop where
  zone : ∀ h, u.zone h = t.zone h
  queue : u.queue = t.queue
  subject : u.subject = t.subject
  report : u.report = t.report

theorem Zt.Same.of_slots {t u : Zt} (hs : u.slots = t.slots) (hq : u.queue = t.queue) (hsub : u.subject = t.subject)
    (hr : u.report = t.report) : t.Same u :=
  ⟨fun h => by simp only [Zt.zone, hs], hq, hsub, hr⟩

theorem Zt.same_overflow (t : Zt) (b : Bool) : t.Same { t with overflow := b } := .of_slots rfl rfl rfl rfl

theorem Zt.allocate_same (t : Zt) (h : ZoneHandle) : t.Same (t.allocate h) := by
  refine ⟨fun j => ?_, rfl, rfl, rfl⟩
  simp only [Zt.zone, Zt.allocate, put_getElem]
  split
  · next hj => rw [hj]
  · rfl

theorem Zt.Same.queueOk {t u : Zt} (h : t.Same u) (hq : t.QueueOk) : u.QueueOk :=
  hq.of_states h.queue fun j => by rw [Zt.stateOf_eq, Zt.stateOf_eq, h.zone]

/-- A new zone passes the checks on its fields and on its class (R24 to R26, R29). -/
structure Zone.MayEnter (s : State) (z : Zone) : Prop where
  box : boxFits s.cs.record.geometry z.box = true
  group : z.group ≤ 7
  expiry : z.cls = .fixed → z.expiry = none
  count : z.cls = .fixed → s.zt.fixedCount < 16

theorem ShiftFields.shifted_of_out (f : ShiftFields) {z : Zone} (s : State) (hz : z.inForce = false) : f.shifted z s = f.apply z := by
  have out : (f.apply z).inForce = false := hz
  simp [ShiftFields.shifted, out]

theorem ShiftFields.shifted_of_force (f : ShiftFields) {z : Zone} (s : State) (hz : z.inForce = true) : f.shifted z s =
    Zone.updateRelation { f.apply z with
      clearance := s.zt.clearanceTo s.cs.record.geometry f.box,
      state :=
        if z.state = .armed ∧ below s.cs.record.geometry.standoff (s.zt.clearanceTo s.cs.record.geometry f.box) = true then .pending
        else z.state } := by
  have force : (f.apply z).inForce = true := hz
  simp only [ShiftFields.shifted, force, if_true]
  rfl

theorem ShiftFields.shifted_state (f : ShiftFields) (z : Zone) (s : State) : (f.shifted z s).state =
    if z.state = .armed ∧ below s.cs.record.geometry.standoff (s.zt.clearanceTo s.cs.record.geometry f.box) = true then .pending
    else z.state := by
  cases hz : z.inForce with
  | false =>
    have out : z.state = .suspended := by simpa [Zone.inForce] using hz
    simp [f.shifted_of_out s hz, ShiftFields.apply, out]
  | true => rw [f.shifted_of_force s hz, Zone.updateRelation_eq]

/-- What a request on a table, or an advance, may leave in a slot of the table at work. -/
inductive Edit (s : State) (t : Zt) (h : ZoneHandle) : Option Zone → Prop
  | drop : Edit s t h none
  | leave {z : Zone} (hz : t.zone h = some z) : Edit s t h (some z.leaving)
  | enter {z : Zone} (hz : t.zone h = some z) (hf : z.inForce = false) : Edit s t h (some (s.zt.entering s.cs.record.geometry z))
  | place {z : Zone} (hz : t.zone h = none) (hz' : z.MayEnter s) (hu : s.zt.fixedCount = t.fixedCount) :
      Edit s t h (some (s.zt.entering s.cs.record.geometry z))
  | shift {z : Zone} {f : ShiftFields} (hz : t.zone h = some z) (hl : ¬ (z.cls = .fixed ∧ z.inForce = true)) (hfit : f.fit z s = true) :
      Edit s t h (some (f.shifted z s))

/-- A zone that becomes PENDING finds a place in the queue. -/
def Zt.Room (t : Zt) (h : ZoneHandle) (after : Option Zone) : Prop :=
  after.map Zone.state = some .pending → t.stateOf h = some .pending ∨ t.queue.length < 8

/-- The tables at work that edits make of a state's table. -/
inductive Edits (s : State) : ZtWork → Prop
  | of_same {w : ZtWork} (h : s.zt.Same w.zt) : Edits s w
  | change {w : ZtWork} {h : ZoneHandle} {after : Option Zone} (cls : ZoneClass) (kind : ChangeKind) (hw : Edits s w)
      (hedit : Edit s w.zt h after) (hroom : w.zt.Room h after) : Edits s (w.change h cls kind after)

section
variable {s : State} {w : ZtWork}

theorem Edits.work (s : State) : Edits s s.zt.work := .of_same ⟨fun _ => rfl, rfl, rfl, rfl⟩

theorem Edits.report (hw : Edits s w) : w.zt.report = s.zt.report := by
  induction hw with
  | of_same h => exact h.report
  | change cls kind _ _ _ ih => exact ih

theorem Edits.queueOk (hs : s.zt.QueueOk) (hw : Edits s w) : w.zt.QueueOk := by
  induction hw with
  | of_same h => exact h.queueOk hs
  | change cls kind _ _ hroom ih => exact ZtWork.change_queueOk ih hroom

theorem Edits.retireOne (hw : Edits s w) (h : ZoneHandle) : Edits s (w.retireOne h) := by
  unfold ZtWork.retireOne
  split
  · split
    · exact .change _ _ hw .drop (by simp [Zt.Room])
    · exact hw
  · exact hw

theorem Edits.retirement (hw : Edits s w) : Edits s w.retirement := by
  unfold ZtWork.retirement
  generalize handles 48 = l
  induction l generalizing w with
  | nil => exact hw
  | cons h l ih => exact ih (hw.retireOne h)

theorem ZtWork.retireOne_idle {h : ZoneHandle} (he : (w.retireOne h).entries = []) : w.retireOne h = w := by
  unfold ZtWork.retireOne at he ⊢
  split at he
  · split at he
    · simp [ZtWork.change] at he
    · next hc => simp [hc]
  · rfl

/-- A retirement that makes no entry does nothing. -/
theorem ZtWork.retirement_idle (he : w.retirement.entries = []) : w.retirement = w := by
  unfold ZtWork.retirement at he ⊢
  generalize handles 48 = l at he ⊢
  induction l generalizing w with
  | nil => rfl
  | cons h l ih =>
    rw [List.foldl_cons] at he ⊢
    have rest := ih he
    rw [rest] at he ⊢
    exact ZtWork.retireOne_idle he

theorem ZtWork.change_queue_length (w : ZtWork) (h : ZoneHandle) (cls : ZoneClass) (kind : ChangeKind) (after : Option Zone) :
    (w.change h cls kind after).zt.queue.length ≤
      w.zt.queue.length + if after.map Zone.state = some .pending then 1 else 0 := by
  simp only [ZtWork.change, decide_eq_true_eq]
  split
  · split <;> simp
  · exact List.length_filter_le _ _

/-- Edits of distinct slots, one after another. -/
theorem Edits.foldl {cls : ZoneHandle × Zone → ZoneClass} {kind : ZoneHandle × Zone → ChangeKind} {after : ZoneHandle × Zone → Option Zone}
    (l : List (ZoneHandle × Zone)) (hl : (l.map Prod.fst).Nodup) (hw : Edits s w)
    (hedit : ∀ hz ∈ l, ∀ t : Zt, t.zone hz.1 = w.zt.zone hz.1 → Edit s t hz.1 (after hz))
    (hroom : (l.filter fun hz => decide ((after hz).map Zone.state = some .pending)) = [] ∨
      w.zt.queue.length + (l.filter fun hz => decide ((after hz).map Zone.state = some .pending)).length ≤ 8) :
    Edits s (l.foldl (fun w hz => w.change hz.1 (cls hz) (kind hz) (after hz)) w) := by
  induction l generalizing w with
  | nil => exact hw
  | cons hz l ih =>
    obtain ⟨hnot, hl⟩ := List.nodup_cons.mp (List.map_cons ▸ hl)
    have grows := w.change_queue_length hz.1 (cls hz) (kind hz) (after hz)
    have rest (hz' : ZoneHandle × Zone) (hz'' : hz' ∈ l) (t : Zt)
        (ht : t.zone hz'.1 = (w.change hz.1 (cls hz) (kind hz) (after hz)).zt.zone hz'.1) : Edit s t hz'.1 (after hz') := by
      have hne : hz'.1 ≠ hz.1 := fun e => hnot (List.mem_map.mpr ⟨hz', hz'', e⟩)
      exact hedit hz' (by simp [hz'']) t (ht.trans (ZtWork.zone_change_other _ _ _ _ hne))
    have first := hedit hz (by simp) w.zt rfl
    rw [List.filter_cons] at hroom
    by_cases hp : (after hz).map Zone.state = some .pending
    · simp only [hp, decide_true, if_true, List.length_cons] at hroom grows
      have hroom := hroom.resolve_left (by simp)
      refine ih hl (.change _ _ hw first fun _ => .inr (by omega)) rest (.inr ?_)
      show (w.change hz.1 (cls hz) (kind hz) (after hz)).zt.queue.length + _ ≤ 8
      omega
    · simp only [hp, decide_false, Bool.false_eq_true, if_false] at hroom grows
      refine ih hl (.change _ _ hw first fun k => absurd k hp) rest (hroom.imp id fun k => ?_)
      show (w.change hz.1 (cls hz) (kind hz) (after hz)).zt.queue.length + _ ≤ 8
      omega

end

/-! ## Invariants of the table -/

/-- The boxes of a table's zones. -/
def Zt.boxes (t : Zt) : List Box := (handles 48).filterMap (fun h => (t.zone h).map Zone.box)

/-- The table of a report that marks the position invalid (R48). -/
def Zt.invalidated (t : Zt) : Zt :=
  { t.mapForce (fun z => { z with clearance := none, relation := .clear }) with subject := none }

theorem invalidReport_eq (s : State) : invalidReport s = handSummary { s with zt := s.zt.invalidated } := rfl

/-- A property of the geometry and the table that each of the table's operations keeps. -/
structure TableInvariant (I : GeometryCfg → Zt → Prop) : Prop where
  same : ∀ {g : GeometryCfg} {t u : Zt}, t.Same u → I g t → I g u
  renews : ∀ {g : GeometryCfg} {t : Zt} {h : ZoneHandle} {z : Zone} (life : Int) (e : ClockValue), t.zone h = some z →
    lifeInRange z.cls life = true → I g t → I g (t.setZone h (some { z with expiry := some e }))
  settles : ∀ {s : State} {w : ZtWork}, Edits s w → I s.cs.record.geometry s.zt →
    I s.cs.record.geometry (w.settle s.cs.record.geometry).zt
  evaluates : ∀ {g g' : GeometryCfg} {t : Zt} (r : PositionReport), r.p.isSome = true →
    g' = g ∨ geometryConsistent g' t.boxes [] = true → I g t → I g' (Zt.evaluated g' { t with report := r }).zt
  invalidates : ∀ {g : GeometryCfg} {t : Zt} (r : PositionReport), r.p = none → I g t → I g (Zt.invalidated { t with report := r })
  regauges : ∀ {g g' : GeometryCfg} {t : Zt}, geometryConsistent g' t.boxes [] = true →
    t.report.p = none ∨ envelopeChanges g g' = false → I g t → I g' t
  starts : ∀ i : Image, imagePasses i = true → I i.record.geometry (.reset (loadedSlots i.zones))

/-- The state's table has a property. -/
def OnTable (I : GeometryCfg → Zt → Prop) (s : State) : Prop := I s.cs.record.geometry s.zt

section
variable {I : GeometryCfg → Zt → Prop} {s u : State} (hI : TableInvariant I)

theorem OnTable.of_eq (h : OnTable I s) (hz : u.zt = s.zt) (hg : u.cs.record.geometry = s.cs.record.geometry) : OnTable I u := by
  unfold OnTable
  rw [hz, hg]
  exact h

include hI

theorem OnTable.of_same (h : OnTable I s) (hz : s.zt.Same u.zt) (hg : u.cs.record.geometry = s.cs.record.geometry) : OnTable I u := by
  unfold OnTable
  rw [hg]
  exact hI.same hz h

theorem OnTable.carryOut {w : ZtWork} (h : OnTable I s) (hw : Edits s w) : OnTable I (carryOut w s) := by
  have settled := hI.settles hw h
  unfold OnTable
  rw [(changes_carryOut w s).cs, carryOut_zt]
  exact hI.same (Zt.same_overflow _ _) settled

theorem OnTable.carryOutPut {h : ZoneHandle} {z : Zone} (ht : OnTable I s) (hh : s.zt.zone h = none) (hz : z.MayEnter s)
    (hroom : (s.zt.entering s.cs.record.geometry z).state = .pending → s.zt.queue.length < 8) :
    OnTable I (carryOutPut h (s.zt.entering s.cs.record.geometry z) s).state := by
  have same := s.zt.allocate_same h
  have count : s.zt.fixedCount = (s.zt.allocate h).fixedCount := by
    unfold Zt.fixedCount
    congr 2
    funext j
    rw [same.zone]
  exact ht.carryOut hI (.change _ _ (.of_same (w := (s.zt.allocate h).work) same)
    (.place ((same.zone h).trans hh) hz count) fun hp => .inr (hroom (by simpa using hp)))

omit hI in
theorem placesFor_iff {g : GeometryCfg} {t : Zt} {need : Nat} : t.placesFor g need = true ↔
    need = 0 ∨ t.queue.length + t.close g + need ≤ 8 := decide_eq_true_iff

omit hI in
theorem placesFor_one {g : GeometryCfg} {t : Zt} (h : ¬ t.placesFor g 1 = false) : t.queue.length < 8 := by
  have := placesFor_iff.mp ((Bool.not_eq_false _).mp h)
  omega

theorem OnTable.zonePut (p : Port) (f : PutFields) (h : OnTable I s) : OnTable I (zonePut p f s).state := by
  unfold Machine.zonePut
  refine refuse_keeps h fun _ => refuse_keeps h fun hfit => refuse_keeps h fun hcount => ?_
  split
  · exact h
  · next hs hfree =>
    refine refuse_keeps h fun hp => ?_
    have free : s.zt.zone hs = none := by simpa using List.find?_some hfree
    simp only [PutFields.fit, Bool.not_eq_true', Bool.not_eq_false, Bool.and_eq_true, decide_eq_true_eq] at hfit
    obtain ⟨⟨⟨⟨hbox, -⟩, -⟩, hgroup⟩, hlife⟩ := hfit
    refine h.carryOutPut hI free ⟨hbox, hgroup, fun hc => ?_, fun hc => ?_⟩ fun hpend => placesFor_one fun hfull => hp ⟨hpend, hfull⟩
    · have hc : f.cls = .fixed := hc
      cases hl : f.life <;> simp_all [putLifeFits, lifeInRange]
    · have hc : f.cls = .fixed := hc
      simpa [hc] using hcount

theorem OnTable.zoneShift {h : ZoneHandle} {z : Zone} (f : ShiftFields) (hz : s.zt.zone h = some z) (ht : OnTable I s) :
    OnTable I (zoneShift f h z s).state := by
  unfold Machine.zoneShift
  refine refuse_keeps ht fun hl => refuse_keeps ht fun hfit => refuse_keeps ht fun hp => ?_
  refine ht.carryOut hI (.change _ _ (.work s) (.shift hz hl (by simpa using hfit)) fun hpend => ?_)
  have state : s.zt.stateOf h = some z.state := by rw [Zt.stateOf_eq, hz]; rfl
  simp only [Option.map_some, Option.some.injEq] at hpend
  by_cases ha : z.state = .armed
  · exact .inr (placesFor_one fun hfull => hp ⟨ha, hpend, hfull⟩)
  · refine .inl (state.trans ?_)
    rw [ShiftFields.shifted_state, if_neg fun k => ha k.1] at hpend
    exact congrArg some hpend

theorem OnTable.zoneRenew {h : ZoneHandle} {z : Zone} (life : Int) (hz : s.zt.zone h = some z) (ht : OnTable I s) :
    OnTable I (zoneRenew life h z s).state := by
  unfold Machine.zoneRenew
  refine refuse_keeps ht fun hl => ?_
  exact hI.renews life _ hz (by simpa using hl) ht

theorem OnTable.zoneSuspend {h : ZoneHandle} {z : Zone} (hz : s.zt.zone h = some z) (ht : OnTable I s) :
    OnTable I (zoneSuspend h z s).state := by
  unfold Machine.zoneSuspend
  split
  · exact ht.carryOut hI (.change _ _ (.work s) (.leave hz) (by simp [Zt.Room, Zone.leaving]))
  · exact ht

theorem OnTable.zoneResume {h : ZoneHandle} {z : Zone} (hz : s.zt.zone h = some z) (ht : OnTable I s) :
    OnTable I (zoneResume h z s).state := by
  unfold Machine.zoneResume
  split
  · exact ht
  · next hf =>
    refine refuse_keeps ht fun hp => ht.carryOut hI (.change _ _ (.work s) (.enter hz (by simpa using hf)) fun hpend => .inr ?_)
    exact placesFor_one fun hfull => hp ⟨by simpa using hpend, hfull⟩

theorem OnTable.zoneDrop (h : ZoneHandle) (cls : ZoneClass) (ht : OnTable I s) :
    OnTable I (Machine.carryOut (s.zt.work.change h cls .drop none) s) :=
  ht.carryOut hI (.change _ _ (.work s) .drop (by simp [Zt.Room]))

omit hI in
theorem mem_groupZones {p : Port} {group : Byte} {b : Bool} {hz : ZoneHandle × Zone} : hz ∈ groupZones p group b s ↔
    s.zt.zone hz.1 = some hz.2 ∧ hz.2.group = group.toNat ∧ hz.2.inForce = b ∧ zoneGranted s p .suspend hz.2 = true := by
  obtain ⟨h, z⟩ := hz
  simp only [groupZones, List.mem_filterMap]
  constructor
  · rintro ⟨j, -, hj⟩
    split at hj
    · split at hj
      · next hz hc => cases hj; exact ⟨hz, hc⟩
      · cases hj
    · cases hj
  · rintro ⟨hz, hc⟩
    exact ⟨h, mem_handles h, by simp only [hz]; rw [if_pos hc]⟩

omit hI in
theorem groupZones_handles_sublist (p : Port) (group : Byte) (b : Bool) (s : State) :
    ((groupZones p group b s).map Prod.fst).Sublist (handles 48) := by
  unfold groupZones
  generalize handles 48 = l
  induction l with
  | nil => exact .slnil
  | cons h l ih =>
    rw [List.filterMap_cons]
    split
    · exact ih.cons h
    · next hz hh =>
      have first : hz.1 = h := by
        split at hh
        · split at hh
          · cases hh; rfl
          · cases hh
        · cases hh
      rw [List.map_cons, first]
      exact ih.cons_cons h

omit hI in
theorem groupZones_nodup (p : Port) (group : Byte) (b : Bool) (s : State) : ((groupZones p group b s).map Prod.fst).Nodup :=
  (groupZones_handles_sublist p group b s).nodup (nodup_handles 48)

theorem OnTable.okWithCount {n : Nat} {w : ZtWork} (ht : OnTable I s) (hw : Edits s w) : OnTable I (okWithCount n w s).state := by
  unfold Machine.okWithCount
  dsimp only
  split
  · exact ht
  · exact ht.carryOut hI hw

theorem OnTable.groupSuspend (p : Port) (group : Byte) (ht : OnTable I s) :
    OnTable I (groupSuspend p group s).state := by
  unfold Machine.groupSuspend
  refine refuse_keeps ht fun _ => ht.okWithCount hI ?_
  refine Edits.foldl (after := fun hz => some hz.2.leaving) _ (groupZones_nodup _ _ _ _) (.work s) (fun hz hm t same => ?_) ?_
  · exact .leave (same.trans (mem_groupZones.mp hm).1)
  · exact .inl (by simp [Zone.leaving])

theorem OnTable.groupResume (p : Port) (group : Byte) (ht : OnTable I s) :
    OnTable I (groupResume p group s).state := by
  unfold Machine.groupResume
  refine refuse_keeps ht fun _ => refuse_keeps ht fun hp => ht.okWithCount hI ?_
  refine Edits.foldl (after := fun hz => some hz.2) _ ?_ (.work s) (fun hz hm t same => ?_) ?_
  · rw [List.map_map]
    exact groupZones_nodup p group false s
  · obtain ⟨hz', hm', rfl⟩ := List.mem_map.mp hm
    obtain ⟨zone, -, out, -⟩ := mem_groupZones.mp hm'
    exact .enter (same.trans zone) out
  · simp only [Option.map_some, Option.some.injEq]
    exact (placesFor_iff.mp ((Bool.not_eq_false _).mp hp)).imp List.length_eq_zero_iff.mp fun k => by
      show s.zt.queue.length + _ ≤ 8
      omega

/-! ## The clock, the reports and the configuration -/

theorem OnTable.advance (h : OnTable I s) : OnTable I (advance s) := by
  have edits : Edits s { s.zt with clock := s.zt.clock + 1 }.work.retirement := (Edits.of_same (.of_slots rfl rfl rfl rfl)).retirement
  unfold Machine.advance
  dsimp only
  split
  · next he =>
    have idle := ZtWork.retirement_idle (List.isEmpty_iff.mp he)
    exact h.of_same hI (by rw [idle]; exact .of_slots rfl rfl rfl rfl) rfl
  · exact h.carryOut hI edits

theorem OnTable.carryFalls (h : OnTable I s) : OnTable I (carryFalls s) := by
  have restarted : OnTable I { s with zt := { s.zt with carry := s.zt.carry + 100 } } := h.of_same hI (.of_slots rfl rfl rfl rfl) rfl
  unfold Machine.carryFalls
  dsimp only
  split
  · exact restarted.of_same hI (.of_slots rfl rfl rfl rfl) rfl
  · exact restarted.advance hI

theorem OnTable.thaw (h : OnTable I s) : OnTable I (thaw s) := by
  unfold Machine.thaw
  split
  · exact h
  · split
    · exact OnTable.advance hI (h.of_same hI (.of_slots rfl rfl rfl rfl) rfl)
    · exact h.of_same hI (.of_slots rfl rfl rfl rfl) rfl

theorem OnTable.clearOverflow (h : OnTable I s) : OnTable I (clearOverflow s) := by
  unfold Machine.clearOverflow
  split
  · refine h.of_same hI ?_ ?_
    · rw [(changes_tellSu _ _ _).zt]
      exact .of_slots rfl rfl rfl rfl
    · rw [(changes_tellSu _ _ _).cs]
  · exact h

theorem OnTable.takePositionReport (r : PositionReport) (h : OnTable I s) : OnTable I (takePositionReport r s) := by
  unfold Machine.takePositionReport
  dsimp only
  split
  · next hr =>
    have evaluated := hI.evaluates r hr (.inl rfl) h
    unfold OnTable
    rw [(changes_evaluateReport _).cs, evaluateReport_zt]
    exact hI.same (Zt.same_overflow _ _) evaluated
  · next hr =>
    rw [invalidReport_eq]
    refine OnTable.of_eq (s := { s with zt := Zt.invalidated { s.zt with report := r } }) ?_ rfl rfl
    exact hI.invalidates r (by simpa using hr) h

omit hI in
theorem writeGeometry_eq (g : GeometryCfg) (s : State) : writeGeometry g s =
    if envelopeChanges s.cs.record.geometry g = true then recomputeCues (reevaluate (setRecord { s.cs.record with geometry := g } s))
    else setRecord { s.cs.record with geometry := g } s := rfl

theorem OnTable.writeGeometry {g : GeometryCfg} {targets : List Vec3} (hg : geometryConsistent g (zoneBoxes s) targets = true)
    (h : OnTable I s) : OnTable I (writeGeometry g s) := by
  have boxes : geometryConsistent g s.zt.boxes [] = true := by
    simp only [geometryConsistent, Bool.and_eq_true] at hg ⊢
    exact ⟨hg.1, rfl⟩
  rw [writeGeometry_eq]
  split
  · have marked (t : State) : OnTable I t → OnTable I (Machine.recomputeCues t) := fun k => k.of_eq rfl rfl
    refine marked _ ?_
    unfold reevaluate
    split
    · next hr =>
      have evaluated := hI.evaluates s.zt.report hr (.inr boxes) h
      unfold OnTable
      rw [(changes_evaluateReport _).cs, evaluateReport_zt]
      exact hI.same (Zt.same_overflow _ _) evaluated
    · next hr => exact hI.regauges boxes (.inl (by simpa using hr)) h
  · next hc => exact hI.regauges boxes (.inr (Bool.not_eq_true _ ▸ hc)) h

omit hI in
/-- A write of any other group leaves the geometry and the table standing. -/
theorem groupWrite_other {group : Group} {bs : List Byte} (hg : group ≠ .geometry) (hw : groupWrite group bs s = some u) :
    u.zt = s.zt ∧ u.cs.record.geometry = s.cs.record.geometry := by
  cases group with
  | geometry => exact absurd rfl hg
  | motion =>
    obtain ⟨c, -, rfl⟩ := Option.map_eq_some_iff.mp hw
    unfold writeMotion settleMaxSpeed
    dsimp only
    (repeat' split) <;> exact ⟨rfl, rfl⟩
  | following =>
    obtain ⟨c, -, rfl⟩ := Option.map_eq_some_iff.mp hw
    exact ⟨(changes_followingWritten _).zt, by rw [(changes_followingWritten _).cs]; rfl⟩
  | winch =>
    cases bs with
    | nil => cases hw
    | cons n bs =>
      obtain ⟨w, -, hw⟩ := Option.bind_eq_some_iff.mp hw
      obtain ⟨c, -, rfl⟩ := Option.map_eq_some_iff.mp hw
      refine ⟨(changes_writeWinch w c s).zt, ?_⟩
      unfold writeWinch
      rw [(changes_winchWritten w _).cs]
      show (settleLink w s).cs.record.geometry = _
      rw [(changes_settleLink w s).cs]
  | sag =>
    obtain ⟨c, -, rfl⟩ := Option.map_eq_some_iff.mp hw
    exact ⟨rfl, rfl⟩
  | matrix =>
    obtain ⟨m, -, rfl⟩ := Option.map_eq_some_iff.mp hw
    exact ⟨rfl, rfl⟩
  | ports =>
    obtain ⟨b, -, rfl⟩ := Option.map_eq_some_iff.mp hw
    exact ⟨rfl, rfl⟩
  | stored => cases hw

theorem OnTable.groupWrite {group : Group} {bs : List Byte} (h : OnTable I s) (hw : groupWrite group bs s = some u) : OnTable I u := by
  by_cases hg : group = .geometry
  · subst hg
    obtain ⟨g, hc, rfl⟩ := Option.map_eq_some_iff.mp hw
    exact h.writeGeometry hI (Option.filter_eq_some_iff.mp hc).2
  · obtain ⟨hz, hg⟩ := groupWrite_other hg hw
    exact h.of_eq hz hg

theorem OnTable.carryOutResume (q : Vec3) (h : OnTable I s) : OnTable I (carryOutResume q s) := by
  unfold Machine.carryOutResume
  dsimp only
  have cleared : OnTable I (Machine.clearOverflow
      { s with fc := { s.fc with p := some q, v := .zero, causes := [], launchTimer := none, settleTimer := none } }) :=
    OnTable.clearOverflow hI (h.of_eq rfl rfl)
  split
  · exact cleared.of_eq (enterParked_frame _).changes.zt (by rw [(enterParked_frame _).changes.cs])
  · exact cleared.of_eq (enterLaunching_frame _).changes.zt (by rw [(enterLaunching_frame _).changes.cs])

/-! ## The commands -/

omit hI in
theorem onZone_keeps {I : State → Prop} {s : State} {handle gen : Byte} {act : ZoneHandle → Zone → Answer} (hs : I s)
    (h : ∀ h z, s.zt.zone h = some z → I (act h z).state) : I (onZone handle gen s act).state := by
  unfold onZone
  split
  · split
    · exact hs
    · next hz =>
      split
      · exact h _ _ hz
      · exact hs
  · exact hs

omit hI in
theorem onZoneGranted_keeps {I : State → Prop} {s : State} {p : Port} {op : ZoneOp} {handle gen : Byte}
    {act : ZoneHandle → Zone → Answer} (hs : I s) (h : ∀ h z, s.zt.zone h = some z → I (act h z).state) :
    I (onZoneGranted p op handle gen s act).state := by
  refine onZone_keeps hs fun zh z hz => ?_
  split
  · exact h zh z hz
  · exact hs

theorem OnTable.ownerAnswer (h : OnTable I s) (p : Port) (r : Request) : OnTable I (ownerAnswer p s r).state := by
  have changes := ownerAnswer_changes p s r
  cases r with
  | zonePut cls box guard hyst cap group life =>
    simp only [Machine.ownerAnswer]
    cases classOf cls with
    | none => exact h
    | some c => exact h.zonePut hI p _
  | zoneShift handle gen box guard hyst cap => exact onZoneGranted_keeps h fun zh z hz => h.zoneShift hI _ hz
  | zoneRenew handle gen life => exact onZoneGranted_keeps h fun zh z hz => h.zoneRenew hI _ hz
  | zoneSuspend handle gen => exact onZoneGranted_keeps h fun zh z hz => h.zoneSuspend hI hz
  | zoneResume handle gen => exact onZoneGranted_keeps h fun zh z hz => h.zoneResume hI hz
  | zoneDrop handle gen => exact onZoneGranted_keeps h fun zh z _ => h.zoneDrop hI zh z.cls
  | groupSuspend group => exact h.groupSuspend hI p group
  | groupResume group => exact h.groupResume hI p group
  | clockFreeze => exact h.of_same hI (.of_slots rfl rfl rfl rfl) rfl
  | clockThaw => exact h.thaw hI
  | resume =>
    simp only [Machine.ownerAnswer, resumeRequest]
    split
    · exact h
    · next q _ =>
      have carried := h.carryOutResume hI q
      have reported := (reportQueue_frame s.ct (Machine.carryOutResume q s)).changes
      exact carried.of_eq reported.zt (by rw [reported.cs])
  | configWrite group bs => exact configWrite_keeps h fun _ _ hw => h.groupWrite hI hw
  | configSave =>
    simp only [Machine.ownerAnswer, configSave]
    exact refuse_keeps h fun _ => refuse_keeps h fun _ => refuse_keeps h fun _ => h
  | _ => exact h.of_eq (changes.zt (by simp [ownerRegions])) (by rw [changes.cs (by simp [ownerRegions])])

theorem OnTable.served (h : OnTable I s) (p : Port) (r : Request) : OnTable I (served p s r) := by
  have answered := h.ownerAnswer hI p r
  cases r with
  | driveQuery winch code args =>
    have changes := changes_driveQueryRequest p winch code args s
    exact h.of_eq changes.zt (congrArg (fun x : Cs => x.record.geometry) changes.cs)
  | _ => exact answered.of_eq rfl rfl

omit hI in
theorem imagePasses_of_loaded {f : Flash} {i : Image} (h : loadedImage f = some i) : imagePasses i = true := by
  unfold loadedImage at h
  split at h
  · cases h
  · cases h
  · split at h
    · next hp => cases h; exact hp
    · cases h

omit hI in
theorem imagePasses_default : imagePasses { record := .default, zones := [] } = true := by decide

theorem OnTable.start (s : State) : OnTable I (start s) := by
  unfold Machine.start
  split
  · next hl => exact hI.starts _ (imagePasses_of_loaded hl)
  · exact hI.starts _ imagePasses_default

theorem OnTable.event {c : Instr} (hc : isRequest c = false) (h : OnTable I s) (e : exec c s = .next u) : OnTable I u := by
  have part : ∀ (s : State) x, OnTable I s → OnTable I { s with part := x } := fun _ _ k => k.of_eq rfl rfl
  have changes := exec_changes e
  have ite {c : Prop} [Decidable c] {t v : State} (ht : OnTable I t) (hv : OnTable I v) : OnTable I (if c then t else v) := by
    split <;> assumption
  cases c
  all_goals simp only [exec, regionsOf] at e changes
  case powerOn => cases e; exact ite (h.of_eq rfl rfl) (.start hI s)
  case resetReleased => cases e; exact ite (.start hI s) (h.of_eq rfl rfl)
  case restartResponseSent => cases e; exact ite (.start hI s) h
  case carry => exact onExpiry_keeps h part (fun t k => k.carryFalls hI) e
  case positionReport =>
    unfold execPositionReport at e
    split at e
    · cases e; exact h
    · refine whileRunning_keeps h ?_ e
      exact OnTable.takePositionReport hI _ (h.of_eq rfl rfl)
  case saveEnd =>
    unfold execSaveEnd at e
    split at e
    · cases e; exact h
    · refine onExpiry_keeps h part (fun t k => ?_) e
      unfold endSave
      dsimp only
      refine ite (k.of_eq ?_ ?_) (k.of_eq rfl rfl)
      · exact (changes_tellSu _ _ _).zt
      · rw [(changes_tellSu _ _ _).cs]
  all_goals first
    | (cases hc; done)
    | exact h.of_eq changes.zt (by rw [changes.cs])

/-- Every command keeps an invariant of the table. -/
theorem OnTable.exec {c : Instr} (h : OnTable I s) (e : exec c s = .next u) : OnTable I u := by
  cases hc : isRequest c with
  | false => exact h.event hI hc e
  | true =>
    obtain ⟨r, p, rfl⟩ := command_of_isRequest hc
    obtain k | ⟨r', -, -, k⟩ := exec_command_cases r p s
    · rw [k] at e; cases e; exact h
    · rw [k] at e; cases e; exact h.served hI p r'

end

end Sys2Proof.Machine
end

section
/-! PROOF. The Zone Table stays sound (O27). -/

namespace Sys2Proof.Machine

set_option Elab.async false

/-! ## A zone of a sound table -/

/-- A zone in force holds the clearance of its box to the last report and a relation; one that is not holds neither (R16, R50, R54). -/
structure Zone.Held (g : GeometryCfg) (t : Zt) (z : Zone) : Prop where
  force : z.state ≠ .suspended → z.clearance = t.clearanceTo g z.box ∧ z.relation ≠ .off
  out : z.state = .suspended → z.clearance = none ∧ z.relation = .off

/-- An ARMED zone is not within STANDOFF (R52). -/
def Zone.ArmedFits (g : GeometryCfg) (z : Zone) : Prop := z.state = .armed → ∀ c, z.clearance = some c → g.standoff ≤ c

/-- A PENDING zone is within STANDOFF (R51). -/
def Zone.PendingFits (g : GeometryCfg) (z : Zone) : Prop := z.state = .pending → ∀ c, z.clearance = some c → c < g.standoff

/-- A table at work: every part of its soundness but the arming of what has come clear. -/
structure Zt.Fits (g : GeometryCfg) (t : Zt) : Prop where
  queue : t.QueueOk
  held : ∀ h z, t.zone h = some z → z.Held g t
  armed : ∀ h z, t.zone h = some z → z.ArmedFits g

/-- A sound table. -/
structure Zt.Sound (g : GeometryCfg) (t : Zt) : Prop extends t.Fits g where
  pending : ∀ h z, t.zone h = some z → z.PendingFits g

theorem zoneTableSound_iff (s : State) : ZoneTableSound s ↔ s.zt.Sound s.cs.record.geometry := by
  constructor
  · rintro ⟨queue, held, fits⟩
    exact ⟨⟨(pendingQueueSound_iff s).mp queue, fun h z hz => ⟨(held h z hz).1, (held h z hz).2⟩,
      fun h z hz hs c hc => (fits h z c hz hc).1 hs⟩, fun h z hz hs c hc => (fits h z c hz hc).2 hs⟩
  · rintro ⟨⟨queue, held, armed⟩, pending⟩
    exact ⟨(pendingQueueSound_iff s).mpr queue, fun h z hz => ⟨(held h z hz).force, (held h z hz).out⟩,
      fun h z c hz hc => ⟨fun hs => armed h z hz hs c hc, fun hs => pending h z hz hs c hc⟩⟩

section
variable {g : GeometryCfg} {t : Zt} {z : Zone}

theorem clearOf_iff {standoff : Int} {c : Option Int} : clearOf standoff c = true ↔ ∃ v, c = some v ∧ standoff ≤ v := by
  cases c <;> simp [clearOf]

theorem below_iff {bound : Int} {c : Option Int} : below bound c = true ↔ ∃ v, c = some v ∧ v < bound := by
  cases c <;> simp [below]

theorem Zone.Held.of_report {u : Zt} (hr : u.report = t.report) (h : z.Held g t) : z.Held g u := by
  refine ⟨fun hs => ?_, h.out⟩
  rw [show u.clearanceTo g z.box = t.clearanceTo g z.box by simp only [Zt.clearanceTo, hr]]
  exact h.force hs

theorem Zone.held_leaving : z.leaving.Held g t := ⟨fun h => absurd rfl h, fun _ => ⟨rfl, rfl⟩⟩

theorem Zone.armedFits_leaving : z.leaving.ArmedFits g := fun h => by cases h

theorem entering_state : (t.entering g z).state = if clearOf g.standoff (t.clearanceTo g z.box) = true then .armed else .pending := rfl

theorem entryRelation_ne_off (c : Option Int) (guard : Int) : entryRelation c guard ≠ .off := by
  unfold entryRelation
  split <;> simp

theorem held_entering : (t.entering g z).Held g t := by
  refine ⟨fun _ => ⟨rfl, entryRelation_ne_off _ _⟩, fun h => ?_⟩
  rw [entering_state] at h
  split at h <;> cases h

theorem armedFits_entering : (t.entering g z).ArmedFits g := by
  intro h c hc
  rw [entering_state] at h
  split at h
  · next hclear =>
    obtain ⟨v, hv, hle⟩ := clearOf_iff.mp hclear
    cases hv.symm.trans hc
    exact hle
  · cases h

theorem pendingFits_entering : (t.entering g z).PendingFits g := by
  intro h c hc
  rw [entering_state] at h
  split at h
  · cases h
  · next hclear =>
    refine Classical.byContradiction fun hlt => ?_
    exact hclear (clearOf_iff.mpr ⟨c, hc, Int.not_lt.mp hlt⟩)

theorem updateRelation_relation_ne_off (h : z.relation ≠ .off) : z.updateRelation.relation ≠ .off := by
  unfold Zone.updateRelation
  split
  · simp
  · (repeat' split) <;> simp [h]

theorem Zone.Held.updated (h : z.Held g t) (hf : z.inForce = true) : z.updateRelation.Held g t := by
  have force := h.force ((inForce_iff z).mp hf)
  have hne := updateRelation_relation_ne_off force.2
  rw [Zone.updateRelation_eq] at hne ⊢
  exact ⟨fun _ => ⟨force.1, hne⟩, fun hs => absurd hs ((inForce_iff z).mp hf)⟩

theorem armedFits_updateRelation (h : z.ArmedFits g) : z.updateRelation.ArmedFits g := by
  rw [Zone.updateRelation_eq]
  exact h

theorem pendingFits_updateRelation (h : z.PendingFits g) : z.updateRelation.PendingFits g := by
  rw [Zone.updateRelation_eq]
  exact h

/-! ## Requests -/

theorem Edit.held {s : State} {h : ZoneHandle} {after : Option Zone} (he : Edit s t h after) (ht : t.Fits s.cs.record.geometry)
    (hr : t.report = s.zt.report) (hz : after = some z) : z.Held s.cs.record.geometry t ∧ z.ArmedFits s.cs.record.geometry := by
  cases he with
  | drop => cases hz
  | leave => cases hz; exact ⟨Zone.held_leaving, Zone.armedFits_leaving⟩
  | enter => cases hz; exact ⟨Zone.Held.of_report hr held_entering, armedFits_entering⟩
  | place => cases hz; exact ⟨Zone.Held.of_report hr held_entering, armedFits_entering⟩
  | @shift z0 f hz0 hl hfit =>
    cases hz
    have old := ht.held h z0 hz0
    cases hf : z0.inForce with
    | false =>
      rw [f.shifted_of_out s hf]
      have out : z0.state = .suspended := by simpa [Zone.inForce] using hf
      exact ⟨⟨fun hs => absurd out hs, old.out⟩, fun ha => by rw [show (f.apply z0).state = z0.state from rfl, out] at ha; cases ha⟩
    | true =>
      have force := (inForce_iff z0).mp hf
      have moved : f.shifted z0 s = Zone.updateRelation _ := f.shifted_of_force s hf
      have notOut : (f.shifted z0 s).state ≠ .suspended := by
        rw [f.shifted_state]
        split
        · simp
        · exact force
      have rel := (old.force force).2
      rw [moved] at notOut ⊢
      rw [Zone.updateRelation_eq] at notOut
      refine ⟨Zone.Held.of_report hr (Zone.Held.updated ⟨fun _ => ⟨rfl, rel⟩, fun hs => absurd hs notOut⟩ ((inForce_iff _).mpr notOut)),
        armedFits_updateRelation fun ha c hc => ?_⟩
      dsimp only at ha hc
      split at ha
      · cases ha
      · next hn =>
        refine Classical.byContradiction fun hlt => ?_
        exact hn ⟨ha, below_iff.mpr ⟨c, hc, Int.not_le.mp hlt⟩⟩

theorem Edits.fits {s : State} {w : ZtWork} (hw : Edits s w) (hs : s.zt.Fits s.cs.record.geometry) : w.zt.Fits s.cs.record.geometry := by
  induction hw with
  | of_same h =>
    exact ⟨h.queueOk hs.queue, fun j z hz => Zone.Held.of_report h.report (hs.held j z (h.zone j ▸ hz)),
      fun j z hz => hs.armed j z (h.zone j ▸ hz)⟩
  | @change w h after cls kind hw hedit hroom ih =>
    have edited (z : Zone) (hz : after = some z) := hedit.held ih hw.report hz
    have zone (j : ZoneHandle) (z : Zone) (hz : (w.change h cls kind after).zt.zone j = some z) :
        z.Held s.cs.record.geometry w.zt ∧ z.ArmedFits s.cs.record.geometry := by
      by_cases hj : j = h
      · subst hj
        rw [ZtWork.zone_change_same] at hz
        exact edited z hz
      · rw [ZtWork.zone_change_other _ _ _ _ hj] at hz
        exact ⟨ih.held j z hz, ih.armed j z hz⟩
    exact ⟨ZtWork.change_queueOk ih.queue hroom, fun j z hz => Zone.Held.of_report (t := w.zt) rfl (zone j z hz).1,
      fun j z hz => (zone j z hz).2⟩

theorem Zone.arming_eq (z : Zone) : z.arming g = { z with state := (z.arming g).state } := by
  unfold Zone.arming
  split <;> rfl

theorem Zone.Held.arming (h : z.Held g t) : (z.arming g).Held g t := by
  unfold Zone.arming
  split
  · next hc => exact ⟨fun _ => h.force (by simp [hc.1]), fun hs => by cases hs⟩
  · exact h

theorem Zone.ArmedFits.arming (h : z.ArmedFits g) : (z.arming g).ArmedFits g := by
  unfold Zone.arming
  split
  · next hc =>
    intro _ c hcl
    obtain ⟨v, hv, hle⟩ := clearOf_iff.mp hc.2
    cases hv.symm.trans hcl
    exact hle
  · exact h

theorem Zone.pendingFits_arming : (z.arming g).PendingFits g := by
  unfold Zone.arming
  split
  · intro hs
    cases hs
  · next hn =>
    intro hs c hc
    refine Classical.byContradiction fun hlt => ?_
    exact hn ⟨hs, clearOf_iff.mpr ⟨c, hc, Int.not_lt.mp hlt⟩⟩

/-- The arming pass makes a table at work sound. -/
theorem Zt.Fits.settle {w : ZtWork} (h : w.zt.Fits g) : (w.settle g).zt.Sound g := by
  obtain ⟨queue, works, zone⟩ := w.armingPass_zones g h.queue
  have zone' (j : ZoneHandle) (z : Zone) (hz : (w.settle g).zt.zone j = some z) :
      ∃ z0, w.zt.zone j = some z0 ∧ z = z0.arming g := by
    have hz : (w.armingPass g).zt.zone j = some z := hz
    rw [zone] at hz
    obtain ⟨z0, h0, rfl⟩ := Option.map_eq_some_iff.mp hz
    exact ⟨z0, h0, rfl⟩
  refine ⟨⟨⟨queue.nodup, queue.length, queue.mem⟩, fun j z hz => ?_, fun j z hz => ?_⟩, fun j z hz => ?_⟩
  all_goals obtain ⟨z0, h0, rfl⟩ := zone' j z hz
  · exact Zone.Held.of_report works.report (h.held j z0 h0).arming
  · exact (h.armed j z0 h0).arming
  · exact Zone.pendingFits_arming

/-! ## A valid report -/

/-- The zones of a table whose clearances are computed afresh. -/
theorem computeClearances_held (h : t.QueueOk) (hz : ∀ j z, t.zone j = some z → (z.state ≠ .suspended → z.relation ≠ .off) ∧
    (z.state = .suspended → z.clearance = none ∧ z.relation = .off)) :
    (t.computeClearances g).QueueOk ∧ ∀ j z, (t.computeClearances g).zone j = some z → z.Held g t := by
  refine ⟨Zt.mapForce_queueOk (fun _ => rfl) h, fun j z hz' => ?_⟩
  rw [Zt.computeClearances, Zt.mapForce_zone] at hz'
  obtain ⟨z0, h0, rfl⟩ := Option.map_eq_some_iff.mp hz'
  obtain ⟨force, out⟩ := hz j z0 h0
  by_cases hf : z0.inForce = true
  · rw [if_pos hf]
    have hf := (inForce_iff z0).mp hf
    exact ⟨fun _ => ⟨rfl, force hf⟩, fun hs => absurd hs hf⟩
  · rw [if_neg hf]
    have hs : z0.state = .suspended := by simpa [Zone.inForce] using hf
    exact ⟨fun hn => absurd hs hn, out⟩

/-- A demotion makes a zone that it takes PENDING, or takes it out of force. -/
theorem Zone.Held.demoted (full : Bool) (h : z.Held g t) (hp : z.PendingFits g) :
    let z' := if z.demotes g = true then (if full then z.leaving else { z with state := .pending }) else z
    z'.Held g t ∧ z'.PendingFits g ∧ z'.ArmedFits g := by
  dsimp only
  split
  · next hd =>
    simp only [Zone.demotes, Bool.and_eq_true, decide_eq_true_eq] at hd
    obtain ⟨v, hv, hlt⟩ := below_iff.mp hd.2
    cases full with
    | true => exact ⟨Zone.held_leaving, (fun hs => by cases hs), Zone.armedFits_leaving⟩
    | false =>
      refine ⟨⟨fun _ => h.force (by simp [hd.1]), (fun hs => by cases hs)⟩, fun _ c hc => ?_, (fun hs => by cases hs)⟩
      cases hv.symm.trans hc
      exact hlt
  · next hd =>
    refine ⟨h, hp, fun hs c hc => ?_⟩
    refine Classical.byContradiction fun hlt => ?_
    exact hd (by simp [Zone.demotes, hs, below_iff, hc, Int.not_le.mp hlt])

theorem Zt.QueueOk.setSubject (h : t.QueueOk) : (t.setSubject g).QueueOk := ⟨h.nodup, h.length, h.mem⟩

/-- The table after the steps of a valid report. -/
theorem evaluated_sound (h : t.QueueOk) (hz : ∀ j z, t.zone j = some z → (z.state ≠ .suspended → z.relation ≠ .off) ∧
    (z.state = .suspended → z.clearance = none ∧ z.relation = .off)) : (t.evaluated g).zt.Sound g := by
  obtain ⟨queue0, held0⟩ := computeClearances_held (g := g) h hz
  obtain ⟨queue1, works1, zone1⟩ := ZtWork.armingPass_zones g (t.computeClearances g).work queue0
  obtain ⟨queue2, works2, zone2⟩ := ZtWork.demotion_zones g _ queue1
  obtain ⟨queue3, works3, zone3⟩ := ZtWork.placement_zones g _ queue2
  have works := ((t.mapForce_works _).trans works1).trans works2
  have report : (t.evaluated g).zt.report = t.report := by
    simp only [Zt.evaluated, Zt.evaluating, Zt.setSubject, Zt.updateRelations, Zt.mapForce]
    exact (works.trans works3).report
  have queue : (t.evaluated g).zt.QueueOk := by
    unfold Zt.evaluated Zt.evaluating
    exact (Zt.mapForce_queueOk (f := Zone.updateRelation) (fun z => by rw [Zone.updateRelation_eq]) queue3).setSubject
  have zone (j : ZoneHandle) : (t.evaluated g).zt.zone j = (t.evaluating g).zt.updateRelations.zone j := Zt.setSubject_zone _ _ _
  unfold Zt.evaluating at zone
  generalize (((t.computeClearances g).work.armingPass g).demotion g) = w2 at *
  have armed (j : ZoneHandle) (z : Zone) (hz : ((t.computeClearances g).work.armingPass g).zt.zone j = some z) :
      z.Held g t ∧ z.PendingFits g := by
    rw [zone1] at hz
    obtain ⟨z0, h0, rfl⟩ := Option.map_eq_some_iff.mp hz
    exact ⟨(held0 j z0 h0).arming, Zone.pendingFits_arming⟩
  have demoted (j : ZoneHandle) (z : Zone) (hz : w2.zt.zone j = some z) : z.Held g t ∧ z.PendingFits g ∧ z.ArmedFits g := by
    obtain ⟨full, hfull⟩ := zone2 j
    rw [hfull] at hz
    obtain ⟨z0, h0, rfl⟩ := Option.map_eq_some_iff.mp hz
    exact (armed j z0 h0).1.demoted full (armed j z0 h0).2
  have placed (j : ZoneHandle) (z : Zone) (hz : (w2.placement g).zt.zone j = some z) : z.Held g t ∧ z.PendingFits g ∧ z.ArmedFits g := by
    obtain ⟨full, hfull⟩ := zone3 j
    rw [hfull] at hz
    obtain ⟨z0, h0, rfl⟩ := Option.map_eq_some_iff.mp hz
    obtain ⟨held, pending, armed⟩ := demoted j z0 h0
    split
    · split
      · exact ⟨Zone.Held.of_report works.report.symm held_entering, pendingFits_entering, armedFits_entering⟩
      · exact ⟨⟨held.force, held.out⟩, pending, armed⟩
    · exact ⟨held, pending, armed⟩
  have final (j : ZoneHandle) (z : Zone) (hz : (t.evaluated g).zt.zone j = some z) : z.Held g t ∧ z.PendingFits g ∧ z.ArmedFits g := by
    rw [zone, Zt.updateRelations, Zt.mapForce_zone] at hz
    obtain ⟨z0, h0, rfl⟩ := Option.map_eq_some_iff.mp hz
    obtain ⟨held, pending, armed⟩ := placed j z0 h0
    split
    · next hf => exact ⟨held.updated hf, pendingFits_updateRelation pending, armedFits_updateRelation armed⟩
    · exact ⟨held, pending, armed⟩
  exact ⟨⟨queue, fun j z hz => (final j z hz).1.of_report report, fun j z hz => (final j z hz).2.2⟩, fun j z hz => (final j z hz).2.1⟩

/-! ## The table's soundness as an invariant -/

theorem Zt.Sound.of_same {u : Zt} (hs : t.Same u) (h : t.Sound g) : u.Sound g :=
  ⟨⟨hs.queueOk h.queue, fun j z hz => Zone.Held.of_report hs.report (h.held j z (hs.zone j ▸ hz)),
    fun j z hz => h.armed j z (hs.zone j ▸ hz)⟩, fun j z hz => h.pending j z (hs.zone j ▸ hz)⟩

/-- A zone changes in what does not bear on the table's soundness. -/
theorem Zt.Sound.setZone {h : ZoneHandle} {z' : Zone} (hz : t.zone h = some z) (hs : z'.state = z.state) (hb : z'.box = z.box)
    (hc : z'.clearance = z.clearance) (hr : z'.relation = z.relation) (ht : t.Sound g) : (t.setZone h (some z')).Sound g := by
  have zone (j : ZoneHandle) (y : Zone) (hy : (t.setZone h (some z')).zone j = some y) :
      ∃ x, t.zone j = some x ∧ y.state = x.state ∧ y.box = x.box ∧ y.clearance = x.clearance ∧ y.relation = x.relation := by
    by_cases hj : j = h
    · subst hj
      rw [Zt.zone_setZone_same] at hy
      cases hy
      exact ⟨z, hz, hs, hb, hc, hr⟩
    · rw [Zt.zone_setZone_other _ _ hj] at hy
      exact ⟨y, hy, rfl, rfl, rfl, rfl⟩
  refine ⟨⟨ht.queue.of_states rfl fun j => ?_, fun j y hy => ?_, fun j y hy => ?_⟩, fun j y hy => ?_⟩
  · by_cases hj : j = h
    · subst hj
      rw [Zt.stateOf_eq, Zt.stateOf_eq, Zt.zone_setZone_same, hz, Option.map_some, Option.map_some, hs]
    · rw [Zt.stateOf_eq, Zt.stateOf_eq, Zt.zone_setZone_other _ _ hj]
  all_goals obtain ⟨x, hx, state, box, clear, rel⟩ := zone j y hy
  · have old := ht.held j x hx
    refine Zone.Held.of_report (t := t) rfl ⟨fun hy => ?_, fun hy => ?_⟩
    · rw [clear, rel, box]
      exact old.force (state ▸ hy)
    · rw [clear, rel]
      exact old.out (state ▸ hy)
  · exact fun hy c hc => ht.armed j x hx (state ▸ hy) c (clear ▸ hc)
  · exact fun hy c hc => ht.pending j x hx (state ▸ hy) c (clear ▸ hc)

theorem evaluated_of_sound (g' : GeometryCfg) (r : PositionReport) (h : t.Sound g) :
    (Zt.evaluated g' { t with report := r }).zt.Sound g' :=
  evaluated_sound ⟨h.queue.nodup, h.queue.length, h.queue.mem⟩ fun j z hz =>
    ⟨fun hs => ((h.held j z hz).force hs).2, (h.held j z hz).out⟩

theorem invalidated_sound (r : PositionReport) (hr : r.p = none) (h : t.Sound g) : (Zt.invalidated { t with report := r }).Sound g := by
  have zone (j : ZoneHandle) (y : Zone) (hy : (Zt.invalidated { t with report := r }).zone j = some y) :
      ∃ x, t.zone j = some x ∧ y = if x.inForce then { x with clearance := none, relation := .clear } else x := by
    have hy : (Zt.mapForce (fun z => { z with clearance := none, relation := .clear }) { t with report := r }).zone j = some y := hy
    rw [Zt.mapForce_zone] at hy
    obtain ⟨x, hx, rfl⟩ := Option.map_eq_some_iff.mp hy
    exact ⟨x, hx, rfl⟩
  have absent (j : ZoneHandle) (y : Zone) (hy : (Zt.invalidated { t with report := r }).zone j = some y) : y.clearance = none := by
    obtain ⟨x, hx, rfl⟩ := zone j y hy
    split
    · rfl
    · next hf => exact ((h.held j x hx).out (by simpa [Zone.inForce] using hf)).1
  have queue := Zt.mapForce_queueOk (t := { t with report := r }) (f := fun z => { z with clearance := none, relation := .clear })
    (fun _ => rfl) ⟨h.queue.nodup, h.queue.length, h.queue.mem⟩
  refine ⟨⟨⟨queue.nodup, queue.length, queue.mem⟩, fun j y hy => ?_, fun j y hy _ c hc => ?_⟩, fun j y hy _ c hc => ?_⟩
  · obtain ⟨x, hx, rfl⟩ := zone j y hy
    have cleared : Zt.clearanceTo g (Zt.invalidated { t with report := r }) = fun _ => none := by
      funext b
      exact congrArg (Option.map _) hr
    split
    · next hf => exact ⟨fun _ => ⟨(congrFun cleared _).symm, by simp⟩, fun hs => absurd hs ((inForce_iff x).mp hf)⟩
    · next hf =>
      have out : x.state = .suspended := by simpa [Zone.inForce] using hf
      exact ⟨fun hs => absurd out hs, (h.held j x hx).out⟩
  · cases (absent j y hy).symm.trans hc
  · cases (absent j y hy).symm.trans hc

theorem envelopeChanges_eq_false {g g' : GeometryCfg} : envelopeChanges g g' = false ↔
    g.standoff = g'.standoff ∧ g.rH = g'.rH ∧ g.rB = g'.rB ∧ g.rT = g'.rT := by
  simp only [envelopeChanges, decide_eq_false_iff_not, not_or, Decidable.not_not]

/-- The clearances of another geometry are the same where there is no position, or the envelope stays. -/
theorem Zt.Sound.regauge {g' : GeometryCfg} (hc : t.report.p = none ∨ envelopeChanges g g' = false) (h : t.Sound g) : t.Sound g' := by
  have clear : t.clearanceTo g' = t.clearanceTo g := by
    funext b
    obtain hp | he := hc
    · simp only [Zt.clearanceTo, hp, Option.map_none]
    · obtain ⟨-, hH, hB, hT⟩ := envelopeChanges_eq_false.mp he
      simp only [Zt.clearanceTo, clearance, envelope, hH, hB, hT]
  have standoff (j : ZoneHandle) (z : Zone) (hz : t.zone j = some z) (hs : z.state ≠ .suspended) (c : Int) (hcl : z.clearance = some c) :
      g'.standoff = g.standoff := by
    obtain hp | he := hc
    · have absent := ((h.held j z hz).force hs).1
      rw [Zt.clearanceTo, hp] at absent
      cases absent.symm.trans hcl
    · exact (envelopeChanges_eq_false.mp he).1.symm
  refine ⟨⟨h.queue, fun j z hz => ⟨fun hs => clear ▸ (h.held j z hz).force hs, (h.held j z hz).out⟩, fun j z hz hs c hcl => ?_⟩,
    fun j z hz hs c hcl => ?_⟩
  · rw [standoff j z hz (by simp [hs]) c hcl]
    exact h.armed j z hz hs c hcl
  · rw [standoff j z hz (by simp [hs]) c hcl]
    exact h.pending j z hz hs c hcl

theorem loadedSlots_zone (zones : List StoredZone) (h : ZoneHandle) :
    (Zt.reset (loadedSlots zones)).zone h = zones[h.val]?.map loadedZone := by
  simp only [Zt.zone, Zt.reset, loadedSlots]
  rw [show (Vector.ofFn _)[h] = _ from Vector.getElem_ofFn h.isLt]
  split <;> simp_all

theorem reset_sound (zones : List StoredZone) : (Zt.reset (loadedSlots zones)).Sound g := by
  have zone (j : ZoneHandle) (z : Zone) (hz : (Zt.reset (loadedSlots zones)).zone j = some z) :
      z.state = .suspended ∧ z.clearance = none ∧ z.relation = .off := by
    rw [loadedSlots_zone] at hz
    obtain ⟨x, -, rfl⟩ := Option.map_eq_some_iff.mp hz
    exact ⟨rfl, rfl, rfl⟩
  refine ⟨⟨⟨List.nodup_nil, Nat.zero_le _, fun j => ⟨(fun hj => by cases hj), fun hj => ?_⟩⟩, fun j z hz => ?_, fun j z hz hs => ?_⟩,
    fun j z hz hs => ?_⟩
  · rw [Zt.stateOf_eq] at hj
    obtain ⟨z, hz, hs⟩ := Option.map_eq_some_iff.mp hj
    cases hs.symm.trans (zone j z hz).1
  · obtain ⟨out, clear, rel⟩ := zone j z hz
    exact ⟨fun hs => absurd out hs, fun _ => ⟨clear, rel⟩⟩
  · cases hs.symm.trans (zone j z hz).1
  · cases hs.symm.trans (zone j z hz).1

/-- The table's soundness is kept by each of its operations. -/
theorem sound_invariant : TableInvariant (fun g t => t.Sound g) where
  same hs h := h.of_same hs
  renews _ _ hz _ h := h.setZone hz rfl rfl rfl rfl
  settles hw h := (hw.fits h.toFits).settle
  evaluates r _ _ h := evaluated_of_sound _ r h
  invalidates r hr h := invalidated_sound r hr h
  regauges _ hc h := h.regauge hc
  starts _ _ := reset_sound _

/-- Settles O27: the operations of the table keep its soundness, and no other command touches it. -/
theorem zoneTableStaysSound : Obligations.ZoneTableStaysSound := by
  unfold Obligations.ZoneTableStaysSound
  refine Kept.of_exec (fun _ _ h => h) (fun _ _ h => h) fun c s u h e => ?_
  exact (zoneTableSound_iff u).mpr (OnTable.exec sound_invariant ((zoneTableSound_iff s).mp h) e)

end

end Sys2Proof.Machine
end

section
/-! PROOF. The details of the Zone Table stay fit: its subject, its FIXED zones, the fields and the boxes of its zones (O28). -/

namespace Sys2Proof.Machine

set_option Elab.async false

/-! ## The subject -/

theorem Zt.findSubject_iff (g : GeometryCfg) (t : Zt) (h : ZoneHandle) : t.findSubject g = some h ↔
    t.queue.head? = some h ∧ t.report.p.isSome = true ∧
    ∃ (z : Zone) (c : Int), t.zone h = some z ∧ z.clearance = some c ∧ c < g.standoff := by
  unfold Zt.findSubject
  cases hq : t.queue with
  | nil => simp
  | cons a rest =>
    simp only [List.head?_cons, Option.some.injEq]
    constructor
    · intro hs
      cases hz : t.zone a with
      | none => simp [hz] at hs
      | some z =>
        simp only [hz, Bool.and_eq_true, Option.ite_none_right_eq_some, Option.some.injEq] at hs
        obtain ⟨⟨hp, hb⟩, rfl⟩ := hs
        obtain ⟨c, hc, hlt⟩ := below_iff.mp hb
        exact ⟨rfl, hp, z, c, hz, hc, hlt⟩
    · rintro ⟨rfl, hp, z, c, hz, hc, hlt⟩
      simp [hz, hp, below_iff.mpr ⟨c, hc, hlt⟩]

theorem subjectIsTheBlockedHead_iff (s : State) :
    SubjectIsTheBlockedHead s ↔ s.zt.subject = s.zt.findSubject s.cs.record.geometry := by
  unfold SubjectIsTheBlockedHead
  simp only [← Zt.findSubject_iff]
  exact ⟨fun h => Option.ext h, fun h j => by rw [h]⟩

theorem findSubject_of_noPosition (g : GeometryCfg) {t : Zt} (h : t.report.p = none) : t.findSubject g = none := by
  rw [Option.eq_none_iff_forall_ne_some]
  intro j hj
  have valid := ((Zt.findSubject_iff g t j).mp hj).2.1
  rw [h] at valid
  cases valid

/-- The subject depends on the queue, on the report and on the zones' clearances alone. -/
theorem findSubject_congr (g : GeometryCfg) {t u : Zt} (hq : u.queue = t.queue) (hr : u.report = t.report)
    (hz : ∀ h, (u.zone h).map Zone.clearance = (t.zone h).map Zone.clearance) : u.findSubject g = t.findSubject g := by
  have clear (v : Zt) (j : ZoneHandle) : (∃ (z : Zone) (c : Int), v.zone j = some z ∧ z.clearance = some c ∧ c < g.standoff) ↔
      ∃ c, (v.zone j).map Zone.clearance = some (some c) ∧ c < g.standoff := by
    constructor
    · rintro ⟨z, c, hz, hc, hlt⟩
      exact ⟨c, by rw [hz, Option.map_some, hc], hlt⟩
    · rintro ⟨c, hc, hlt⟩
      obtain ⟨z, hz, hzc⟩ := Option.map_eq_some_iff.mp hc
      exact ⟨z, c, hz, hzc, hlt⟩
  refine Option.ext fun j => ?_
  rw [Zt.findSubject_iff, Zt.findSubject_iff, clear, clear, hq, hr, hz]

theorem setZone_clearance {t : Zt} {h : ZoneHandle} {z z' : Zone} (hz : t.zone h = some z) (hc : z'.clearance = z.clearance)
    (j : ZoneHandle) : ((t.setZone h (some z')).zone j).map Zone.clearance = (t.zone j).map Zone.clearance := by
  by_cases hj : j = h
  · subst hj
    rw [Zt.zone_setZone_same, hz, Option.map_some, Option.map_some, hc]
  · rw [Zt.zone_setZone_other _ _ hj]

theorem setSubject_subject (g : GeometryCfg) (t : Zt) : (t.setSubject g).subject = (t.setSubject g).findSubject g := rfl

theorem subject_invariant : TableInvariant (fun g t => t.subject = t.findSubject g) where
  same hs h := by
    rw [hs.subject, h]
    exact (findSubject_congr _ hs.queue hs.report fun j => by rw [hs.zone]).symm
  renews {g t hd z} _ e hz _ h := by
    have same := findSubject_congr g (t := t) (u := t.setZone hd (some { z with expiry := some e })) rfl rfl (setZone_clearance hz rfl)
    exact Eq.trans h same.symm
  settles _ _ := setSubject_subject _ _
  evaluates _ _ _ _ := setSubject_subject _ _
  invalidates _ hr _ := (findSubject_of_noPosition _ hr).symm
  regauges _ hc h := by
    obtain hp | he := hc
    · rw [h, findSubject_of_noPosition _ hp, findSubject_of_noPosition _ hp]
    · rw [h]
      simp only [Zt.findSubject, (envelopeChanges_eq_false.mp he).1]
  starts _ _ := rfl

/-! ## What the passes keep of a zone -/

/-- A zone keeps its class, its box, its group and its expiry, and awaits position only as it did, out of force. -/
structure Zone.Keeps (z z' : Zone) : Prop where
  cls : z'.cls = z.cls
  box : z'.box = z.box
  group : z'.group = z.group
  expiry : z'.expiry = z.expiry
  awaiting : (z.awaiting = true → z.state = .suspended) → z'.awaiting = true → z.awaiting = true ∧ z'.state = .suspended

theorem Zone.Keeps.refl (z : Zone) : z.Keeps z := ⟨rfl, rfl, rfl, rfl, fun h ha => ⟨ha, h ha⟩⟩

theorem Zone.Keeps.trans {z z' z'' : Zone} (h : z.Keeps z') (k : z'.Keeps z'') : z.Keeps z'' := by
  refine ⟨k.cls.trans h.cls, k.box.trans h.box, k.group.trans h.group, k.expiry.trans h.expiry, fun fits ha => ?_⟩
  obtain ⟨ha', out⟩ := k.awaiting (fun ha' => (h.awaiting fits ha').2) ha
  exact ⟨(h.awaiting fits ha').1, out⟩

section
variable {g : GeometryCfg} {t u v : Zt} {z : Zone}

theorem Zone.keeps_leaving (z : Zone) : z.Keeps z.leaving := ⟨rfl, rfl, rfl, rfl, fun _ ha => ⟨ha, rfl⟩⟩

theorem Zone.keeps_entering (z : Zone) : z.Keeps (t.entering g z) := ⟨rfl, rfl, rfl, rfl, fun _ ha => by cases ha⟩

theorem Zone.keeps_relation (z : Zone) (c : Option Int) (r : Relation) : z.Keeps { z with clearance := c, relation := r } :=
  ⟨rfl, rfl, rfl, rfl, fun h ha => ⟨ha, h ha⟩⟩

theorem Zone.keeps_updateRelation (z : Zone) : z.Keeps z.updateRelation := by
  rw [Zone.updateRelation_eq]
  exact z.keeps_relation _ _

theorem Zone.keeps_placed (z : Zone) : z.Keeps { z with awaiting := false } := ⟨rfl, rfl, rfl, rfl, fun _ ha => by cases ha⟩

/-- A zone in force takes another state. -/
theorem Zone.keeps_state {state : ZoneState} (hz : z.state ≠ .suspended) : z.Keeps { z with state := state } :=
  ⟨rfl, rfl, rfl, rfl, fun h ha => absurd (h ha) hz⟩

theorem Zone.keeps_arming (z : Zone) : z.Keeps (z.arming g) := by
  unfold Zone.arming
  split
  · next hc => exact Zone.keeps_state (by simp [hc.1])
  · exact .refl z

/-- Every zone of a table comes of the zone in its slot before. -/
def Zt.Evolves (t u : Zt) : Prop := ∀ h z', u.zone h = some z' → ∃ z, t.zone h = some z ∧ z.Keeps z'

theorem Zt.Evolves.of_zone (h : ∀ j, u.zone j = t.zone j) : t.Evolves u := fun j z hz => ⟨z, h j ▸ hz, .refl z⟩

theorem Zt.Evolves.trans (h : t.Evolves u) (k : u.Evolves v) : t.Evolves v := by
  intro j z'' hz''
  obtain ⟨z', hz', keeps'⟩ := k j z'' hz''
  obtain ⟨z, hz, keeps⟩ := h j z' hz'
  exact ⟨z, hz, keeps.trans keeps'⟩

theorem ZtWork.Only.evolves {w w' : ZtWork} {h : ZoneHandle} (ho : ZtWork.Only h w w')
    (hz : ∀ z', w'.zt.zone h = some z' → ∃ z, w.zt.zone h = some z ∧ z.Keeps z') : w.zt.Evolves w'.zt := by
  intro j z' hz'
  by_cases hj : j = h
  · subst hj
    exact hz z' hz'
  · exact ⟨z', ho.other j hj ▸ hz', .refl z'⟩

/-- A slot's zone becomes what a function that keeps it makes of it. -/
theorem keeps_of_map {f : Zone → Zone} (hf : ∀ z : Zone, z.Keeps (f z)) {x : Option Zone} (z' : Zone) (h : x.map f = some z') :
    ∃ z, x = some z ∧ z.Keeps z' := by
  obtain ⟨z, hz, rfl⟩ := Option.map_eq_some_iff.mp h
  exact ⟨z, hz, hf z⟩

theorem foldl_evolves {f : ZtWork → ZoneHandle → ZtWork} (hf : ∀ (w : ZtWork) h, w.zt.Evolves (f w h).zt) (l : List ZoneHandle) (w : ZtWork) :
    w.zt.Evolves (l.foldl f w).zt := by
  induction l generalizing w with
  | nil => exact .of_zone fun _ => rfl
  | cons h l ih => exact (hf w h).trans (ih _)

theorem armingPass_evolves (w : ZtWork) : w.zt.Evolves (w.armingPass g).zt := by
  refine foldl_evolves (f := fun w h => w.armOne g h) (fun w h => ?_) w.zt.queue w
  obtain ⟨only, zone, -⟩ := w.armOne_eq g h
  exact only.evolves fun z' hz' => keeps_of_map Zone.keeps_arming z' (zone ▸ hz')

theorem demotion_evolves (w : ZtWork) : w.zt.Evolves (w.demotion g).zt := by
  refine foldl_evolves (f := fun w h => w.demoteOne g h) (fun w h => ?_) (handles 48) w
  obtain ⟨only, zone, -⟩ := w.demoteOne_eq g h
  refine only.evolves fun z' hz' => keeps_of_map (fun z => ?_) z' (zone ▸ hz')
  split
  · next hd =>
    simp only [Zone.demotes, Bool.and_eq_true, decide_eq_true_eq] at hd
    split
    · exact Zone.keeps_state (by simp [hd.1])
    · exact z.keeps_leaving
  · exact .refl z

theorem placement_evolves (w : ZtWork) : w.zt.Evolves (w.placement g).zt := by
  refine foldl_evolves (f := fun w h => w.placeOne g h) (fun w h => ?_) (handles 48) w
  obtain ⟨only, zone, -⟩ := w.placeOne_eq g h
  refine only.evolves fun z' hz' => keeps_of_map (fun z => ?_) z' (zone ▸ hz')
  split
  · split
    · exact z.keeps_entering
    · exact z.keeps_placed
  · exact .refl z

theorem mapForce_evolves {f : Zone → Zone} (hf : ∀ z : Zone, z.Keeps (f z)) (t : Zt) : t.Evolves (t.mapForce f) := by
  intro h z' hz'
  rw [Zt.mapForce_zone] at hz'
  refine keeps_of_map (fun z => ?_) z' hz'
  split
  · exact hf z
  · exact .refl z

theorem settle_evolves (w : ZtWork) : w.zt.Evolves (w.settle g).zt := (armingPass_evolves w).trans (.of_zone fun _ => rfl)

theorem evaluated_evolves (g : GeometryCfg) (t : Zt) : t.Evolves (t.evaluated g).zt := by
  have computed : t.Evolves (t.computeClearances g) := mapForce_evolves (fun z => z.keeps_relation _ _) t
  have worked := (armingPass_evolves (g := g) (t.computeClearances g).work).trans
    ((demotion_evolves (g := g) _).trans (placement_evolves (g := g) _))
  have updated := mapForce_evolves Zone.keeps_updateRelation (t.evaluating g).zt
  exact computed.trans (Zt.Evolves.trans worked (updated.trans (.of_zone fun j => Zt.setSubject_zone _ _ j)))

theorem invalidated_evolves (t : Zt) : t.Evolves t.invalidated :=
  (mapForce_evolves (fun z => z.keeps_relation none .clear) t).trans (.of_zone fun _ => rfl)

end

/-! ## A property of every zone -/

/-- A property of a zone that the table's operations keep. -/
structure ZoneProperty (Q : GeometryCfg → Zone → Prop) : Prop where
  keeps : ∀ {g : GeometryCfg} {z z' : Zone}, z.Keeps z' → Q g z → Q g z'
  renews : ∀ {g : GeometryCfg} {z : Zone} (life : Int) (e : ClockValue), lifeInRange z.cls life = true → Q g z →
    Q g { z with expiry := some e }
  moves : ∀ {g : GeometryCfg} {z : Zone} {box : Box}, boxFits g box = true → Q g z → Q g { z with box := box }
  enters : ∀ {s : State} {z : Zone}, z.MayEnter s → Q s.cs.record.geometry (s.zt.entering s.cs.record.geometry z)
  regauges : ∀ {g g' : GeometryCfg} {z : Zone}, boxWithinVolume g' z.box = true → Q g z → Q g' z
  starts : ∀ {r : Record} {z : StoredZone}, storedZoneFits r z = true → Q r.geometry (loadedZone z)

theorem geometryConsistent_iff (g : GeometryCfg) (boxes : List Box) (targets : List Vec3) : geometryConsistent g boxes targets = true ↔
    geometryConsistent g [] [] = true ∧ (∀ b ∈ boxes, boxWithinVolume g b = true) ∧
    ∀ p ∈ targets, insideVolume g 0 (pointUm p) = true := by
  simp only [geometryConsistent, Bool.and_eq_true, List.all_eq_true, List.all_nil, and_true, and_assoc]

theorem mem_boxes {t : Zt} {b : Box} : b ∈ t.boxes ↔ ∃ h z, t.zone h = some z ∧ z.box = b := by
  simp only [Zt.boxes, List.mem_filterMap, Option.map_eq_some_iff]
  exact ⟨fun ⟨h, _, z, hz⟩ => ⟨h, z, hz⟩, fun ⟨h, z, hz⟩ => ⟨h, mem_handles h, z, hz⟩⟩

section
variable {Q : GeometryCfg → Zone → Prop} (hQ : ZoneProperty Q) {g : GeometryCfg} {s : State} {t u : Zt}

/-- Every zone of a table has a property. -/
def Zt.Each (Q : GeometryCfg → Zone → Prop) (g : GeometryCfg) (t : Zt) : Prop := ∀ h z, t.zone h = some z → Q g z

include hQ

theorem Zt.Each.evolves (h : t.Each Q g) (k : t.Evolves u) : u.Each Q g := by
  intro j z' hz'
  obtain ⟨z, hz, keeps⟩ := k j z' hz'
  exact hQ.keeps keeps (h j z hz)

omit hQ in
/-- A shift moves the box of a zone and keeps the rest. -/
theorem Zone.shifted_keeps {f : ShiftFields} (z : Zone) (s : State) : Zone.Keeps { z with box := f.box } (f.shifted z s) := by
  have applied : Zone.Keeps { z with box := f.box } (f.apply z) := ⟨rfl, rfl, rfl, rfl, fun h ha => ⟨ha, h ha⟩⟩
  cases hf : z.inForce with
  | false => rw [f.shifted_of_out s hf]; exact applied
  | true =>
    rw [f.shifted_of_force s hf]
    refine Zone.Keeps.trans ?_ (Zone.keeps_updateRelation _)
    exact ⟨rfl, rfl, rfl, rfl, fun h ha => absurd (h ha) ((inForce_iff z).mp hf)⟩

theorem Edits.each {w : ZtWork} (hw : Edits s w) (h : s.zt.Each Q s.cs.record.geometry) : w.zt.Each Q s.cs.record.geometry := by
  induction hw with
  | of_same hs => exact h.evolves hQ (.of_zone hs.zone)
  | @change w h after cls kind _ hedit _ ih =>
    intro j z' hz'
    by_cases hj : j = h
    · subst hj
      rw [ZtWork.zone_change_same] at hz'
      cases hedit with
      | drop => cases hz'
      | @leave z hz => cases hz'; exact hQ.keeps z.keeps_leaving (ih j z hz)
      | @enter z hz _ => cases hz'; exact hQ.keeps z.keeps_entering (ih j z hz)
      | place _ hm _ => cases hz'; exact hQ.enters hm
      | @shift z f hz _ hfit =>
        cases hz'
        have box : boxFits s.cs.record.geometry f.box = true := by
          simp only [ShiftFields.fit, Bool.and_eq_true] at hfit
          exact hfit.1.1.1.1
        exact hQ.keeps (z.shifted_keeps s) (hQ.moves box (ih j z hz))
    · rw [ZtWork.zone_change_other _ _ _ _ hj] at hz'
      exact ih j z' hz'

theorem zone_invariant : TableInvariant (fun g t => t.Each Q g) where
  same hs h := h.evolves hQ (.of_zone hs.zone)
  renews {g t hd z} life e hz hl h := by
    intro j z' hz'
    by_cases hj : j = hd
    · subst hj
      rw [Zt.zone_setZone_same] at hz'
      cases hz'
      exact hQ.renews life e hl (h j z hz)
    · rw [Zt.zone_setZone_other _ _ hj] at hz'
      exact h j z' hz'
  settles hw h := (hw.each hQ h).evolves hQ (settle_evolves _)
  evaluates {g g' t} r _ hg h := by
    have regauged : t.Each Q g' := by
      obtain rfl | hg := hg
      · exact h
      · exact fun j z hz => hQ.regauges (((geometryConsistent_iff _ _ _).mp hg).2.1 _ (mem_boxes.mpr ⟨j, z, hz, rfl⟩)) (h j z hz)
    have reported : Zt.Each Q g' { t with report := r } := regauged
    exact reported.evolves hQ (evaluated_evolves _ _)
  invalidates {g t} r _ h := by
    have reported : Zt.Each Q g { t with report := r } := h
    exact reported.evolves hQ (invalidated_evolves _)
  regauges hg _ h := fun j z hz =>
    hQ.regauges (((geometryConsistent_iff _ _ _).mp hg).2.1 _ (mem_boxes.mpr ⟨j, z, hz, rfl⟩)) (h j z hz)
  starts i hi := by
    intro j z hz
    rw [loadedSlots_zone] at hz
    obtain ⟨x, hx, rfl⟩ := Option.map_eq_some_iff.mp hz
    simp only [imagePasses, Bool.and_eq_true, List.all_eq_true] at hi
    exact hQ.starts (hi.2 x (List.mem_of_getElem? hx))

end

/-! ## Fields, boxes and FIXED zones -/

/-- The fields of a zone fit together (R16, R20, R26). -/
def Zone.FieldsFit (z : Zone) : Prop :=
  (z.cls = .fixed → z.expiry = none) ∧ (z.awaiting = true → z.state = .suspended ∧ z.cls = .fixed) ∧ z.group ≤ 7

theorem fieldsFit_property : ZoneProperty (fun _ z => z.FieldsFit) where
  keeps {_ z z'} k h := by
    obtain ⟨expiry, awaiting, group⟩ := h
    refine ⟨fun hc => k.expiry.trans (expiry (k.cls ▸ hc)), fun ha => ?_, k.group ▸ group⟩
    obtain ⟨ha', out⟩ := k.awaiting (fun ha' => (awaiting ha').1) ha
    exact ⟨out, k.cls.trans (awaiting ha').2⟩
  renews {_ z} life e hl h := by
    refine ⟨fun hc => ?_, h.2⟩
    have hc : z.cls = .fixed := hc
    rw [hc] at hl
    cases hl
  moves _ h := h
  enters h := ⟨h.expiry, (fun ha => by cases ha), h.group⟩
  regauges _ h := h
  starts h := by
    simp only [storedZoneFits, Bool.and_eq_true, decide_eq_true_eq] at h
    exact ⟨fun _ => rfl, fun _ => ⟨rfl, rfl⟩, h.2⟩

theorem boxFits_within {g : GeometryCfg} {b : Box} (h : boxFits g b = true) : boxWithinVolume g b = true := by
  simp only [boxFits, Bool.and_eq_true] at h
  exact h.2

theorem inVolume_property : ZoneProperty (fun g z => boxWithinVolume g z.box = true) where
  keeps k h := k.box ▸ h
  renews _ _ _ h := h
  moves hb _ := boxFits_within hb
  enters h := boxFits_within h.box
  regauges h _ := h
  starts h := by
    simp only [storedZoneFits, Bool.and_eq_true] at h
    exact boxFits_within h.1.1.1

/-- A slot holds a FIXED zone. -/
def Zt.fixedAt (t : Zt) (h : ZoneHandle) : Bool := (t.zone h).any fun z => decide (z.cls = .fixed)

theorem fixedCount_eq (t : Zt) : t.fixedCount = ((handles 48).filter t.fixedAt).length := by
  unfold Zt.fixedCount
  congr 2
  funext h
  unfold Zt.fixedAt
  cases t.zone h <;> rfl

theorem fixedAt_iff {t : Zt} {h : ZoneHandle} : t.fixedAt h = true ↔ ∃ z, t.zone h = some z ∧ z.cls = .fixed := by
  simp [Zt.fixedAt, Option.any_eq_true]

/-- Distinct elements of a list are no more than it has. -/
theorem length_le_of_subset {α : Type} [DecidableEq α] {l l' : List α} (hl : l.Nodup) (h : ∀ a ∈ l, a ∈ l') : l.length ≤ l'.length := by
  induction l generalizing l' with
  | nil => exact Nat.zero_le _
  | cons a l ih =>
    obtain ⟨hnot, hl⟩ := List.nodup_cons.mp hl
    have mem := h a List.mem_cons_self
    have rest := ih (l' := l'.erase a) hl fun b hb =>
      (List.mem_erase_of_ne fun e : b = a => hnot (e ▸ hb)).mpr (h b (List.mem_cons_of_mem a hb))
    have pos := List.length_pos_of_mem mem
    rw [List.length_erase_of_mem mem] at rest
    rw [List.length_cons]
    omega

theorem fixedCount_le_of_fixedAt {t u : Zt} (h : ∀ j, u.fixedAt j = true → t.fixedAt j = true) : u.fixedCount ≤ t.fixedCount := by
  rw [fixedCount_eq, fixedCount_eq]
  exact length_le_of_subset ((nodup_handles 48).filter _) fun j hj =>
    List.mem_filter.mpr ⟨mem_handles j, h j (List.mem_filter.mp hj).2⟩

/-- One slot may hold a FIXED zone that it did not hold. -/
theorem fixedCount_le_succ {t u : Zt} {h : ZoneHandle} (hj : ∀ j, j ≠ h → u.fixedAt j = true → t.fixedAt j = true) :
    u.fixedCount ≤ t.fixedCount + 1 := by
  rw [fixedCount_eq, fixedCount_eq]
  refine length_le_of_subset (l' := h :: (handles 48).filter t.fixedAt) ((nodup_handles 48).filter _) fun j hj' => ?_
  by_cases he : j = h
  · exact he ▸ List.mem_cons_self
  · exact List.mem_cons_of_mem _ (List.mem_filter.mpr ⟨mem_handles j, hj j he (List.mem_filter.mp hj').2⟩)

theorem Zt.Evolves.fixedCount {t u : Zt} (h : t.Evolves u) : u.fixedCount ≤ t.fixedCount := by
  refine fixedCount_le_of_fixedAt fun j hj => ?_
  obtain ⟨z', hz', hc⟩ := fixedAt_iff.mp hj
  obtain ⟨z, hz, keeps⟩ := h j z' hz'
  exact fixedAt_iff.mpr ⟨z, hz, keeps.cls ▸ hc⟩

/-- An edit of a slot that holds a zone of a class leaves none there, or one of the class. -/
theorem change_fixedCount {w : ZtWork} {h : ZoneHandle} {after : Option Zone} (cls : ZoneClass) (kind : ChangeKind)
    (ha : ∀ z', after = some z' → ∃ z, w.zt.zone h = some z ∧ z'.cls = z.cls) :
    (w.change h cls kind after).zt.fixedCount ≤ w.zt.fixedCount := by
  refine fixedCount_le_of_fixedAt fun j hj => ?_
  obtain ⟨z', hz', hc⟩ := fixedAt_iff.mp hj
  by_cases he : j = h
  · subst he
    rw [ZtWork.zone_change_same] at hz'
    obtain ⟨z, hz, hcls⟩ := ha z' hz'
    exact fixedAt_iff.mpr ⟨z, hz, hcls ▸ hc⟩
  · rw [ZtWork.zone_change_other _ _ _ _ he] at hz'
    exact fixedAt_iff.mpr ⟨z', hz', hc⟩

theorem Edits.fixedCount {s : State} {w : ZtWork} (hw : Edits s w) (hs : s.zt.fixedCount ≤ 16) : w.zt.fixedCount ≤ 16 := by
  induction hw with
  | of_same h => exact Nat.le_trans (Zt.Evolves.of_zone h.zone).fixedCount hs
  | @change w h after cls kind _ hedit _ ih =>
    have stays (ha : ∀ z', after = some z' → ∃ z, w.zt.zone h = some z ∧ z'.cls = z.cls) := Nat.le_trans (change_fixedCount cls kind ha) ih
    cases hedit with
    | drop => exact stays (by simp)
    | @leave z hz => exact stays fun z' e => ⟨z, hz, by cases e; rfl⟩
    | @enter z hz _ => exact stays fun z' e => ⟨z, hz, by cases e; rfl⟩
    | @shift z f hz _ _ => exact stays fun z' e => ⟨z, hz, by cases e; exact (z.shifted_keeps s).cls⟩
    | @place z hz hm hu =>
      have other (j : ZoneHandle) (hj : j ≠ h) (k : (w.change h cls kind (some (s.zt.entering s.cs.record.geometry z))).zt.fixedAt j = true) :
          w.zt.fixedAt j = true := by
        rw [fixedAt_iff, ZtWork.zone_change_other _ _ _ _ hj] at k
        exact fixedAt_iff.mpr k
      by_cases hc : z.cls = .fixed
      · have := hm.count hc
        exact Nat.le_trans (fixedCount_le_succ other) (by omega)
      · refine Nat.le_trans (fixedCount_le_of_fixedAt fun j hj => ?_) ih
        by_cases he : j = h
        · subst he
          rw [fixedAt_iff, ZtWork.zone_change_same] at hj
          obtain ⟨z', hz', hc'⟩ := hj
          cases hz'
          exact absurd hc' hc
        · exact other j he hj

theorem fixedCount_invariant : TableInvariant (fun _ t => t.fixedCount ≤ 16) where
  same hs h := Nat.le_trans (Zt.Evolves.of_zone hs.zone).fixedCount h
  renews {g t hd z} life e hz _ h := by
    refine Nat.le_trans (fixedCount_le_of_fixedAt fun j hj => ?_) h
    rw [fixedAt_iff] at hj ⊢
    by_cases he : j = hd
    · subst he
      rw [Zt.zone_setZone_same] at hj
      obtain ⟨z', hz', hc⟩ := hj
      cases hz'
      exact ⟨z, hz, hc⟩
    · rwa [Zt.zone_setZone_other _ _ he] at hj
  settles hw h := Nat.le_trans (settle_evolves _).fixedCount (hw.fixedCount h)
  evaluates r _ _ h := Nat.le_trans (evaluated_evolves _ _).fixedCount h
  invalidates r _ h := Nat.le_trans (invalidated_evolves _).fixedCount h
  regauges _ _ h := h
  starts i hi := by
    simp only [imagePasses, Bool.and_eq_true, decide_eq_true_eq] at hi
    have length := hi.1.2
    have sixteen : ((handles 48).filter fun h => decide (h.val < 16)).length = 16 := by decide
    rw [fixedCount_eq, ← sixteen]
    refine length_le_of_subset ((nodup_handles 48).filter _) fun j hj => List.mem_filter.mpr ⟨mem_handles j, ?_⟩
    obtain ⟨z, hz, -⟩ := fixedAt_iff.mp (List.mem_filter.mp hj).2
    rw [loadedSlots_zone] at hz
    obtain ⟨x, hx, -⟩ := Option.map_eq_some_iff.mp hz
    exact decide_eq_true (Nat.lt_of_lt_of_le (List.getElem?_eq_some_iff.mp hx).1 length)

/-- Settles O28: the table's operations keep its subject, the count of its FIXED zones and the fields of each zone. -/
theorem zoneDetailsStayFit : Obligations.ZoneDetailsStayFit := by
  unfold Obligations.ZoneDetailsStayFit
  refine ⟨Kept.of_exec (fun _ _ h => h) (fun _ _ h => h) fun c s u h e => ?_,
    Kept.of_exec (fun _ _ h => h) (fun _ _ h => h) fun c s u h e => OnTable.exec fixedCount_invariant h e,
    Kept.of_exec (fun _ _ h => h) (fun _ _ h => h) fun c s u h e => OnTable.exec (zone_invariant fieldsFit_property) h e⟩
  exact (subjectIsTheBlockedHead_iff u).mpr (OnTable.exec subject_invariant ((subjectIsTheBlockedHead_iff s).mp h) e)

end Sys2Proof.Machine
end

section
/-! PROOF. The Load Monitor at work: what each of its checks makes of a winch, of the three flags and of what it hands on (R176 to R187). -/

namespace Sys2Proof.Machine

set_option Elab.async false

/-! ## The flags of a set of winches -/

/-- The three flags as the comparators stand (R183). -/
def Lm.refresh (l : Lm) : Lm :=
  { l with
    high := (handles 4).any (fun w => l.winches[w].tensionHigh), warm := (handles 4).any (fun w => l.winches[w].motorWarm),
    hot := (handles 4).any (fun w => l.winches[w].motorHot) }

/-- One winch is replaced, and the flags follow. -/
def Lm.load (l : Lm) (w : Winch) (m : LmWinch) : Lm := Lm.refresh { l with winches := put l.winches w m }

theorem anyWinch_iff (f : Winch → Bool) : (handles 4).any f = true ↔ ∃ w, f w = true := by
  simp only [List.any_eq_true]
  exact ⟨fun ⟨w, _, h⟩ => ⟨w, h⟩, fun ⟨w, h⟩ => ⟨w, mem_handles w, h⟩⟩

theorem flag_eq_any (b : Bool) (f : Winch → Bool) : b = (handles 4).any f ↔ (b = true ↔ ∃ w, f w = true) := by
  rw [← anyWinch_iff f, Bool.eq_iff_iff]

theorem loadFlagsFollow_iff (s : State) : LoadFlagsFollow s ↔ s.lm = s.lm.refresh := by
  unfold LoadFlagsFollow
  rw [← flag_eq_any, ← flag_eq_any, ← flag_eq_any]
  constructor
  · rintro ⟨h1, h2, h3⟩
    rw [Lm.refresh, ← h1, ← h2, ← h3]
  · intro h
    exact ⟨congrArg Lm.high h, congrArg Lm.warm h, congrArg Lm.hot h⟩

section
variable {l : Lm} {w : Winch} {m m' : LmWinch}

theorem refresh_load (l : Lm) (w : Winch) (m : LmWinch) : l.load w m = (l.load w m).refresh := rfl

theorem load_winches (l : Lm) (w : Winch) (m : LmWinch) : (l.load w m).winches = put l.winches w m := rfl

theorem load_same (l : Lm) (w : Winch) (m : LmWinch) : (l.load w m).winches[w] = m := put_same _ _ _

theorem load_load (l : Lm) (w : Winch) (m m' : LmWinch) : (l.load w m).load w m' = l.load w m' := by
  simp only [Lm.load, Lm.refresh, put_put]

theorem load_self (hl : l = l.refresh) (w : Winch) : l.load w l.winches[w] = l := by
  rw [Lm.load, put_self, ← hl]

theorem any_put (f : LmWinch → Bool) : (handles 4).any (fun v => f (put l.winches w m)[v]) =
    (handles 4).any (fun v => if v = w then f m else f l.winches[v]) := by
  congr 1
  funext v
  rw [put_getElem]
  split <;> rfl

theorem load_high : (l.load w m).high = (handles 4).any (fun v => if v = w then m.tensionHigh else l.winches[v].tensionHigh) :=
  any_put LmWinch.tensionHigh

theorem load_warm : (l.load w m).warm = (handles 4).any (fun v => if v = w then m.motorWarm else l.winches[v].motorWarm) :=
  any_put LmWinch.motorWarm

theorem load_hot : (l.load w m).hot = (handles 4).any (fun v => if v = w then m.motorHot else l.winches[v].motorHot) :=
  any_put LmWinch.motorHot

theorem load_high_congr (h : m.tensionHigh = m'.tensionHigh) : (l.load w m).high = (l.load w m').high := by
  rw [load_high, load_high, h]

theorem load_warm_congr (h : m.motorWarm = m'.motorWarm) : (l.load w m).warm = (l.load w m').warm := by
  rw [load_warm, load_warm, h]

theorem load_hot_congr (h : m.motorHot = m'.motorHot) : (l.load w m).hot = (l.load w m').hot := by
  rw [load_hot, load_hot, h]

end

theorem eq_load {l x : Lm} {w : Winch} {m : LmWinch} (winches : x.winches = put l.winches w m) (high : x.high = (l.load w m).high)
    (warm : x.warm = (l.load w m).warm) (hot : x.hot = (l.load w m).hot) (aStar : x.aStar = l.aStar) (a : x.a = l.a) :
    x = l.load w m := by
  cases x
  subst winches high warm hot aStar a
  rfl

theorem atChange_of_ne {α : Type} {old new : Bool} (h : old ≠ new) (set clear : α) : atChange old new set clear = [if new then set else clear] :=
  if_neg h

theorem atChange_self {α : Type} (b : Bool) (set clear : α) : atChange b b set clear = [] := if_pos rfl

theorem atRelease_self {α : Type} (t : TimedComparator) (clear : α) : atRelease t t clear = [] := if_neg fun h => h.2 h.1

/-! ## What the Load Monitor hands on -/

/-- The Load Monitor's state replaced, and messages handed on behind those that wait. -/
def handLoads (l : Lm) (su : List SuMsg) (fc : List FcMsg) (s : State) : State :=
  { s with lm := l, chan := { s.chan with lmToSu := s.chan.lmToSu ++ su, lmToFc := s.chan.lmToFc ++ fc } }

section
variable (l l' : Lm) (su su' : List SuMsg) (fc fc' : List FcMsg) (s : State)

theorem handLoads_handLoads : handLoads l' su' fc' (handLoads l su fc s) = handLoads l' (su ++ su') (fc ++ fc') s := by
  simp [handLoads, List.append_assoc]

theorem handLoads_self : handLoads s.lm [] [] s = s := by simp [handLoads]

@[simp] theorem handLoads_lm : (handLoads l su fc s).lm = l := rfl

@[simp] theorem handLoads_winchCfg (w : Winch) : winchCfg (handLoads l su fc s) w = winchCfg s w := rfl

@[simp] theorem handLoads_cs : (handLoads l su fc s).cs = s.cs := rfl

@[simp] theorem handLoads_part : (handLoads l su fc s).part = s.part := rfl

theorem setLm_eq (w : Winch) (m : LmWinch) : setLm w m s = handLoads { s.lm with winches := put s.lm.winches w m } [] [] s := by
  simp [setLm, handLoads]

theorem lmCondition_eq (n : Fin 43) (b : Bool) : lmCondition n b s = handLoads s.lm [if b then .raise n else .clear n] [] s := by
  simp [lmCondition, handLoads, tellSu]

theorem lmCause_eq (c : Cause) (b : Bool) : lmCause c b s = handLoads s.lm [] [if b then .raise c else .clear c] s := by
  simp [lmCause, handLoads, tellFc]

theorem updateHigh_eq : updateHigh s = handLoads { s.lm with high := s.lm.refresh.high } []
    (atChange s.lm.high s.lm.refresh.high (.high true) (.high false)) s := by
  unfold updateHigh atChange
  change (if s.lm.high = s.lm.refresh.high then s
    else tellFc .lm (.high s.lm.refresh.high) { s with lm := { s.lm with high := s.lm.refresh.high } }) = _
  split
  · next h => rw [← h, handLoads_self]
  · generalize s.lm.refresh.high = b
    cases b <;> simp [handLoads, tellFc]

theorem updateWarm_eq : updateWarm s = handLoads { s.lm with warm := s.lm.refresh.warm } []
    (atChange s.lm.warm s.lm.refresh.warm (.warm true) (.warm false)) s := by
  unfold updateWarm atChange
  change (if s.lm.warm = s.lm.refresh.warm then s
    else tellFc .lm (.warm s.lm.refresh.warm) { s with lm := { s.lm with warm := s.lm.refresh.warm } }) = _
  split
  · next h => rw [← h, handLoads_self]
  · generalize s.lm.refresh.warm = b
    cases b <;> simp [handLoads, tellFc]

theorem updateHot_eq : updateHot s = handLoads { s.lm with hot := s.lm.refresh.hot } []
    (atChange s.lm.hot s.lm.refresh.hot (.hot true) (.hot false)) s := by
  unfold updateHot atChange
  change (if s.lm.hot = s.lm.refresh.hot then s
    else tellFc .lm (.hot s.lm.refresh.hot) { s with lm := { s.lm with hot := s.lm.refresh.hot } }) = _
  split
  · next h => rw [← h, handLoads_self]
  · generalize s.lm.refresh.hot = b
    cases b <;> simp [handLoads, tellFc]

end

/-! ## The checks, one after another

Each check is stated on a state that earlier checks of the winch have left: the monitor's state `l.load w old`, and the messages handed so
far. -/

section
variable {l : Lm} {w : Winch} {old : LmWinch} {su : List SuMsg} {fc : List FcMsg} {s : State} (m : LoadSet)

theorem setLm_load {new : LmWinch} (hh : new.tensionHigh = old.tensionHigh) (hw : new.motorWarm = old.motorWarm)
    (ht : new.motorHot = old.motorHot) : setLm w new (handLoads (l.load w old) su fc s) = handLoads (l.load w new) su fc s := by
  rw [setLm_eq, handLoads_handLoads, List.append_nil, List.append_nil]
  congr 1
  exact eq_load (put_put _ _ _ _) (load_high_congr hh.symm) (load_warm_congr hw.symm) (load_hot_congr ht.symm) rfl rfl

theorem setLm_overload (b : Bool) : setLm w { old with overload := b } (handLoads (l.load w old) su fc s) =
    handLoads (l.load w { old with overload := b }) su fc s := setLm_load rfl rfl rfl

theorem setLm_slack (x : TimedComparator) : setLm w { old with slack := x } (handLoads (l.load w old) su fc s) =
    handLoads (l.load w { old with slack := x }) su fc s := setLm_load rfl rfl rfl

theorem setLm_follow (x : TimedComparator) : setLm w { old with follow := x } (handLoads (l.load w old) su fc s) =
    handLoads (l.load w { old with follow := x }) su fc s := setLm_load rfl rfl rfl

theorem applyOverload_load : applyOverload w m (handLoads (l.load w old) su fc s) =
    let b := comparator old.overload (winchCfg s w).overLim (winchCfg s w).tensHyst m.tension
    handLoads (l.load w { old with overload := b }) (su ++ atChange old.overload b (.raise (condOverload w)) (.clear (condOverload w)))
      (fc ++ atChange old.overload b (.raise (.overload w)) (.clear (.overload w))) s := by
  unfold applyOverload
  simp only [handLoads_lm, handLoads_winchCfg, load_same]
  generalize comparator _ _ _ _ = b
  by_cases h : b = old.overload
  · simp [h, atChange]
  · rw [if_neg h, setLm_overload, lmCondition_eq, lmCause_eq]
    simp only [handLoads_handLoads, handLoads_lm, List.append_nil, atChange_of_ne (Ne.symm h)]

theorem applyTensionHigh_load : applyTensionHigh w m (handLoads (l.load w old) su fc s) =
    let b := comparator old.tensionHigh (winchCfg s w).highLim (winchCfg s w).tensHyst m.tension
    handLoads (l.load w { old with tensionHigh := b })
      (su ++ atChange old.tensionHigh b (.raise (condTensionHigh w)) (.clear (condTensionHigh w)))
      (fc ++ atChange (l.load w old).high (l.load w { old with tensionHigh := b }).high (.high true) (.high false)) s := by
  unfold applyTensionHigh
  simp only [handLoads_lm, handLoads_winchCfg, load_same]
  generalize comparator _ _ _ _ = b
  by_cases h : b = old.tensionHigh
  · simp [h, atChange]
  · rw [if_neg h, setLm_eq, lmCondition_eq, updateHigh_eq]
    simp only [handLoads_handLoads, handLoads_lm, List.append_nil]
    have refreshed : Lm.refresh { l.load w old with winches := put (l.load w old).winches w { old with tensionHigh := b } } =
        l.load w { old with tensionHigh := b } := load_load l w old _
    rw [refreshed, atChange_of_ne (Ne.symm h)]
    congr 1
    exact eq_load (put_put _ _ _ _) rfl (load_warm_congr rfl) (load_hot_congr rfl) rfl rfl

theorem applyMotorWarm_load : applyMotorWarm w m (handLoads (l.load w old) su fc s) =
    let b := comparator old.motorWarm (winchCfg s w).warmLim (winchCfg s w).tempHyst (sourceTemp m (winchCfg s w).warmSrc)
    handLoads (l.load w { old with motorWarm := b })
      (su ++ atChange old.motorWarm b (.raise (condMotorWarm w)) (.clear (condMotorWarm w)))
      (fc ++ atChange (l.load w old).warm (l.load w { old with motorWarm := b }).warm (.warm true) (.warm false)) s := by
  unfold applyMotorWarm
  simp only [handLoads_lm, handLoads_winchCfg, load_same]
  generalize comparator _ _ _ _ = b
  by_cases h : b = old.motorWarm
  · simp [h, atChange]
  · rw [if_neg h, setLm_eq, lmCondition_eq, updateWarm_eq]
    simp only [handLoads_handLoads, handLoads_lm, List.append_nil]
    have refreshed : Lm.refresh { l.load w old with winches := put (l.load w old).winches w { old with motorWarm := b } } =
        l.load w { old with motorWarm := b } := load_load l w old _
    rw [refreshed, atChange_of_ne (Ne.symm h)]
    congr 1
    exact eq_load (put_put _ _ _ _) (load_high_congr rfl) rfl (load_hot_congr rfl) rfl rfl

theorem applyMotorHot_load : applyMotorHot w m (handLoads (l.load w old) su fc s) =
    let b := comparator old.motorHot (winchCfg s w).hotLim (winchCfg s w).tempHyst (sourceTemp m (winchCfg s w).hotSrc)
    handLoads (l.load w { old with motorHot := b })
      (su ++ atChange old.motorHot b (.raise (condMotorHot w)) (.clear (condMotorHot w)))
      (fc ++ atChange (l.load w old).hot (l.load w { old with motorHot := b }).hot (.hot true) (.hot false)) s := by
  unfold applyMotorHot
  simp only [handLoads_lm, handLoads_winchCfg, load_same]
  generalize comparator _ _ _ _ = b
  by_cases h : b = old.motorHot
  · simp [h, atChange]
  · rw [if_neg h, setLm_eq, lmCondition_eq, updateHot_eq]
    simp only [handLoads_handLoads, handLoads_lm, List.append_nil]
    have refreshed : Lm.refresh { l.load w old with winches := put (l.load w old).winches w { old with motorHot := b } } =
        l.load w { old with motorHot := b } := load_load l w old _
    rw [refreshed, atChange_of_ne (Ne.symm h)]
    congr 1
    exact eq_load (put_put _ _ _ _) (load_high_congr rfl) (load_warm_congr rfl) rfl rfl rfl

theorem applySlack_load : applySlack w m (handLoads (l.load w old) su fc s) =
    let new := slackAfter (winchCfg s w) s.part.partTime old.slack m
    handLoads (l.load w { old with slack := new }) (su ++ atRelease old.slack new (.clear (condSlack w)))
      (fc ++ atRelease old.slack new (.clear (.slack w))) s := by
  unfold applySlack slackAfter
  simp only [handLoads_lm, handLoads_winchCfg, load_same]
  cases hs : old.slack with
  | clear =>
    dsimp only
    split
    · rw [setLm_slack]
      simp [atRelease, afterMs]
    · simp [atRelease, ← hs]
  | timing due =>
    dsimp only
    split
    · simp [atRelease, ← hs]
    · rw [setLm_slack]
      simp [atRelease]
  | live =>
    dsimp only
    split
    · rw [setLm_slack, lmCondition_eq, lmCause_eq]
      simp [handLoads_handLoads, atRelease]
    · simp [atRelease, ← hs]

theorem strays_iff (f : FollowingCfg) : (decide (m.targetCommand = .track) && decide (f.followTol < m.deviation)) = true ↔
    m.targetCommand = .track ∧ f.followTol < ((m.length - m.targetLength).natAbs : Int) := by
  rw [Bool.and_eq_true, decide_eq_true_iff, decide_eq_true_iff]
  rfl

theorem setLm_self (w : Winch) (s : State) : setLm w s.lm.winches[w] s = s := by
  rw [setLm, put_self]

/-- A winch's follow state changes, and a FOLLOW that ends is handed on. -/
def takeFollow (w : Winch) (new : TimedComparator) (s : State) : State :=
  handLoads { s.lm with winches := put s.lm.winches w { s.lm.winches[w] with follow := new } }
    (atRelease s.lm.winches[w].follow new (.clear (condFollow w))) (atRelease s.lm.winches[w].follow new (.clear (.follow w))) s

theorem takeFollow_self (w : Winch) (s : State) : takeFollow w s.lm.winches[w].follow s = s := by
  have same : setLm w { s.lm.winches[w] with follow := s.lm.winches[w].follow } s = s := setLm_self w s
  rw [takeFollow, atRelease_self, atRelease_self, ← setLm_eq]
  exact same

theorem takeFollow_of_not_live {new : TimedComparator} (h : s.lm.winches[w].follow ≠ .live) :
    takeFollow w new s = setLm w { s.lm.winches[w] with follow := new } s := by
  rw [takeFollow, atRelease, if_neg fun k => h k.1, atRelease, if_neg fun k => h k.1, setLm_eq]

theorem applyFollow_eq : applyFollow w m s =
    takeFollow w (followAfter s.cs.record.following s.part.partTime s.lm.winches[w].follow m) s := by
  unfold applyFollow
  dsimp only
  split
  · next hs =>
    rw [takeFollow_of_not_live (by rw [hs]; simp), hs]
    unfold followAfter
    dsimp only
    split
    · next h => rw [if_pos ((strays_iff m _).mp h), afterMs]
    · next h =>
      rw [if_neg (mt (strays_iff m _).mpr h), ← hs]
      exact (setLm_self w s).symm
  · next due hs =>
    rw [takeFollow_of_not_live (by rw [hs]; simp), hs]
    unfold followAfter
    dsimp only
    split
    · next h =>
      rw [if_pos ((strays_iff m _).mp h), ← hs]
      exact (setLm_self w s).symm
    · next h => rw [if_neg (mt (strays_iff m _).mpr h)]
  · next hs =>
    rw [hs]
    unfold followAfter
    dsimp only
    split
    · next h =>
      rw [if_pos ((strays_iff m _).mp h), ← hs]
      exact (takeFollow_self w s).symm
    · next h =>
      rw [if_neg (mt (strays_iff m _).mpr h), takeFollow, hs, setLm_eq, lmCondition_eq, lmCause_eq]
      simp only [handLoads_handLoads, handLoads_lm, atRelease]
      rfl

theorem applyFollow_load : applyFollow w m (handLoads (l.load w old) su fc s) =
    let new := followAfter s.cs.record.following s.part.partTime old.follow m
    handLoads (l.load w { old with follow := new }) (su ++ atRelease old.follow new (.clear (condFollow w)))
      (fc ++ atRelease old.follow new (.clear (.follow w))) s := by
  rw [applyFollow_eq, takeFollow, handLoads_handLoads]
  simp only [handLoads_lm, load_same, handLoads_cs, handLoads_part]
  congr 1
  exact eq_load (put_put _ _ _ _) (load_high_congr rfl) (load_warm_congr rfl) (load_hot_congr rfl) rfl rfl

end

/-! ## A set, and a write of a winch's fields -/

section
variable {l : Lm} {w : Winch} {old : LmWinch} {su : List SuMsg} {fc : List FcMsg} {s : State}

theorem applyTension_load {m : LoadSet} (hm : old.meas = some m) : applyTension w (handLoads (l.load w old) su fc s) =
    applySlack w m (applyTensionHigh w m (applyOverload w m (handLoads (l.load w old) su fc s))) := by
  unfold applyTension
  simp only [handLoads_lm, load_same, hm]

theorem applyTemperature_load {m : LoadSet} (hm : old.meas = some m) : applyTemperature w (handLoads (l.load w old) su fc s) =
    applyMotorHot w m (applyMotorWarm w m (handLoads (l.load w old) su fc s)) := by
  unfold applyTemperature
  simp only [handLoads_lm, load_same, hm]

theorem applyFollowCheck_load {m : LoadSet} (hm : old.meas = some m) : applyFollowCheck w (handLoads (l.load w old) su fc s) =
    applyFollow w m (handLoads (l.load w old) su fc s) := by
  unfold applyFollowCheck
  simp only [handLoads_lm, load_same, hm]

/-- What the tension and temperature checks hand FC (R182, R183). -/
def comparedToFc (w : Winch) (l : Lm) (old new : LmWinch) : List FcMsg :=
  atChange old.overload new.overload (.raise (.overload w)) (.clear (.overload w)) ++
  atChange (l.load w old).high (l.load w new).high (.high true) (.high false) ++
  atRelease old.slack new.slack (.clear (.slack w)) ++
  atChange (l.load w old).warm (l.load w new).warm (.warm true) (.warm false) ++
  atChange (l.load w old).hot (l.load w new).hot (.hot true) (.hot false)

/-- What the tension and temperature checks hand SU (R182). -/
def comparedToSu (w : Winch) (old new : LmWinch) : List SuMsg :=
  atChange old.overload new.overload (.raise (condOverload w)) (.clear (condOverload w)) ++
  atChange old.tensionHigh new.tensionHigh (.raise (condTensionHigh w)) (.clear (condTensionHigh w)) ++
  atRelease old.slack new.slack (.clear (condSlack w)) ++
  atChange old.motorWarm new.motorWarm (.raise (condMotorWarm w)) (.clear (condMotorWarm w)) ++
  atChange old.motorHot new.motorHot (.raise (condMotorHot w)) (.clear (condMotorHot w))

/-- The tension and temperature checks on a winch that holds a set. -/
theorem applyComparators_load {m : LoadSet} (hm : old.meas = some m) :
    applyTemperature w (applyTension w (handLoads (l.load w old) su fc s)) =
      let new := comparatorsAfter (winchCfg s w) s.part.partTime old m
      handLoads (l.load w new) (su ++ comparedToSu w old new) (fc ++ comparedToFc w l old new) s := by
  rw [applyTension_load hm, applyOverload_load, applyTensionHigh_load, applySlack_load]
  rw [applyTemperature_load (by exact hm), applyMotorWarm_load, applyMotorHot_load]
  obtain ⟨meas, overload, tensionHigh, slack, motorWarm, motorHot, follow⟩ := old
  obtain rfl : meas = some m := hm
  simp only [comparatorsAfter, comparedToSu, comparedToFc, load_high, load_warm, load_hot, List.append_assoc]
  rfl

/-- A winch's state after a set: the comparators and the follow check on it (R176). -/
def measured (c : WinchCfg) (f : FollowingCfg) (now : PartTime) (old : LmWinch) (set : LoadSet) : LmWinch :=
  { comparatorsAfter c now old set with follow := followAfter f now old.follow set }

/-- A winch's state after a write of its fields (R187). -/
def rewritten (c : WinchCfg) (now : PartTime) (old : LmWinch) : LmWinch :=
  match old.meas with
  | some m => comparatorsAfter c now old { m with tension := tensionOf c m.raw }
  | none => old

/-- A winch's state after the follow check on the set it holds (R187). -/
def followed (f : FollowingCfg) (now : PartTime) (old : LmWinch) : LmWinch :=
  match old.meas with
  | some m => { old with follow := followAfter f now old.follow m }
  | none => old

/-- The set of a frame's measurements (R176, R177). -/
def loadSet (c : WinchCfg) (m : Measurement) (answered : Int × Command) : LoadSet :=
  { raw := m.raw, tension := tensionOf c m.raw, winding := m.winding, heatsink := m.heatsink, length := m.length,
    targetLength := answered.1, targetCommand := answered.2 }

theorem setLm_meas (x : Option LoadSet) : setLm w { old with meas := x } (handLoads (l.load w old) su fc s) =
    handLoads (l.load w { old with meas := x }) su fc s := setLm_load rfl rfl rfl

theorem handLoads_load_self (hl : s.lm = s.lm.refresh) (w : Winch) : s = handLoads (s.lm.load w s.lm.winches[w]) [] [] s := by
  rw [load_self hl, handLoads_self]

/-- LM takes a set, its flags following the comparators. -/
theorem takeSet_eq (hl : s.lm = s.lm.refresh) (w : Winch) (m : Measurement) (answered : Int × Command) : takeSet w m answered s =
    let new := measured (winchCfg s w) s.cs.record.following s.part.partTime s.lm.winches[w] (loadSet (winchCfg s w) m answered)
    recomputeTarget (handLoads (s.lm.load w new) (loadsToSu w s.lm.winches[w] new) (loadsToFc w s.lm (s.lm.load w new)) s) := by
  have begin := setLm_meas (l := s.lm) (w := w) (old := s.lm.winches[w]) (su := []) (fc := []) (s := s)
    (some (loadSet (winchCfg s w) m answered))
  rw [← handLoads_load_self hl] at begin
  have high : s.lm.high = (s.lm.load w s.lm.winches[w]).high := congrArg Lm.high (load_self hl w).symm
  have warm : s.lm.warm = (s.lm.load w s.lm.winches[w]).warm := congrArg Lm.warm (load_self hl w).symm
  have hot : s.lm.hot = (s.lm.load w s.lm.winches[w]).hot := congrArg Lm.hot (load_self hl w).symm
  unfold takeSet
  dsimp only
  change recomputeTarget (applyFollowCheck w (applyTemperature w (applyTension w (setLm w
    { s.lm.winches[w] with meas := some (loadSet (winchCfg s w) m answered) } s)))) = _
  rw [begin, applyComparators_load rfl]
  dsimp only
  rw [applyFollowCheck_load rfl, applyFollow_load]
  simp only [loadsToSu, loadsToFc, comparedToSu, comparedToFc, load_same, high, warm, hot, List.nil_append, List.append_assoc,
    load_high, load_warm, load_hot]
  rfl

theorem loadsToSu_self (w : Winch) (old : LmWinch) : loadsToSu w old old = [] := by
  simp only [loadsToSu, atChange_self, atRelease_self, List.append_nil]

theorem loadsToFc_self (w : Winch) (l : Lm) : loadsToFc w l l = [] := by
  simp only [loadsToFc, atChange_self, atRelease_self, List.append_nil]

theorem applyTension_of_none (h : s.lm.winches[w].meas = none) : applyTension w s = s := by
  unfold applyTension
  rw [h]

theorem applyTemperature_of_none (h : s.lm.winches[w].meas = none) : applyTemperature w s = s := by
  unfold applyTemperature
  rw [h]

/-- A write of a winch's fields, the flags following the comparators. -/
theorem winchWritten_eq (hl : s.lm = s.lm.refresh) (w : Winch) : winchWritten w s =
    let new := rewritten (winchCfg s w) s.part.partTime s.lm.winches[w]
    recomputeTarget (handLoads (s.lm.load w new) (loadsToSu w s.lm.winches[w] new) (loadsToFc w s.lm (s.lm.load w new)) s) := by
  have high : s.lm.high = (s.lm.load w s.lm.winches[w]).high := congrArg Lm.high (load_self hl w).symm
  have warm : s.lm.warm = (s.lm.load w s.lm.winches[w]).warm := congrArg Lm.warm (load_self hl w).symm
  have hot : s.lm.hot = (s.lm.load w s.lm.winches[w]).hot := congrArg Lm.hot (load_self hl w).symm
  unfold winchWritten rewritten
  dsimp only
  cases hm : s.lm.winches[w].meas with
  | none =>
    have same : setLm w { s.lm.winches[w] with meas := none } s = s := by
      rw [← hm]
      exact setLm_self w s
    rw [load_self hl, loadsToSu_self, loadsToFc_self, handLoads_self, Option.map_none, same, applyTension_of_none hm,
      applyTemperature_of_none hm]
  | some m =>
    have begin := setLm_meas (l := s.lm) (w := w) (old := s.lm.winches[w]) (su := []) (fc := []) (s := s)
      (some { m with tension := tensionOf (winchCfg s w) m.raw })
    rw [← handLoads_load_self hl] at begin
    rw [Option.map_some, begin, applyComparators_load rfl]
    simp only [loadsToSu, loadsToFc, comparedToSu, comparedToFc, comparatorsAfter, load_same, high, warm, hot, List.nil_append,
      List.append_assoc, List.append_nil, load_high, load_warm, load_hot, atRelease_self]

/-! ## A write of FOLLOW_TOL -/

theorem applyFollowCheck_eq (w : Winch) (s : State) : applyFollowCheck w s =
    takeFollow w (followed s.cs.record.following s.part.partTime s.lm.winches[w]).follow s := by
  unfold applyFollowCheck followed
  cases s.lm.winches[w].meas with
  | none => exact (takeFollow_self w s).symm
  | some m => exact applyFollow_eq m

/-- What the follow checks of some winches hand on: of each whose FOLLOW ends, one message. -/
def releasedBy {α : Type} (f : FollowingCfg) (now : PartTime) (l : Lm) (msg : Winch → α) (ws : List Winch) : List α :=
  ws.flatMap (fun w => atRelease l.winches[w].follow (followed f now l.winches[w]).follow (msg w))

theorem followed_eq (f : FollowingCfg) (now : PartTime) (old : LmWinch) :
    { old with follow := (followed f now old).follow } = followed f now old := by
  obtain ⟨meas, -⟩ := old
  cases meas <;> rfl

theorem flatMap_congr_of_mem {α β : Type} {f g : α → List β} (l : List α) (h : ∀ a ∈ l, f a = g a) : l.flatMap f = l.flatMap g := by
  induction l with
  | nil => rfl
  | cons a l ih =>
    rw [List.flatMap_cons, List.flatMap_cons, h a List.mem_cons_self, ih fun b hb => h b (List.mem_cons_of_mem a hb)]

/-- The follow checks of distinct winches, one after another. -/
theorem followChecks_eq (ws : List Winch) (hws : ws.Nodup) (s : State) : ws.foldl (fun s w => applyFollowCheck w s) s =
    handLoads
      { s.lm with winches := Vector.ofFn fun w : Winch =>
          if w ∈ ws then followed s.cs.record.following s.part.partTime s.lm.winches[w] else s.lm.winches[w] }
      (releasedBy s.cs.record.following s.part.partTime s.lm (fun w => .clear (condFollow w)) ws)
      (releasedBy s.cs.record.following s.part.partTime s.lm (fun w => .clear (.follow w)) ws) s := by
  induction ws generalizing s with
  | nil =>
    have same : (Vector.ofFn fun w : Winch =>
        if w ∈ [] then followed s.cs.record.following s.part.partTime s.lm.winches[w] else s.lm.winches[w]) = s.lm.winches :=
      Vector.ext fun i hi => by simp
    rw [same]
    exact (handLoads_self s).symm
  | cons w ws ih =>
    obtain ⟨hnot, hws⟩ := List.nodup_cons.mp hws
    have other (v : Winch) (hv : v ∈ ws) (x : LmWinch) : (put s.lm.winches w x)[v] = s.lm.winches[v] :=
      put_other _ _ _ _ fun e => hnot (e ▸ hv)
    rw [List.foldl_cons, applyFollowCheck_eq, ih hws, takeFollow, handLoads_handLoads]
    simp only [handLoads_lm, handLoads_cs, handLoads_part, followed_eq]
    have rest {α : Type} (msg : Winch → α) (x : LmWinch) : releasedBy s.cs.record.following s.part.partTime
        { s.lm with winches := put s.lm.winches w x } msg ws = releasedBy s.cs.record.following s.part.partTime s.lm msg ws :=
      flatMap_congr_of_mem ws fun v hv => by simp only [other v hv]
    rw [rest, rest]
    congr 2
    refine Vector.ext fun i hi => ?_
    rw [Vector.getElem_ofFn, Vector.getElem_ofFn]
    have entry (x : LmWinch) := put_getElem s.lm.winches w ⟨i, hi⟩ x
    simp only [Fin.getElem_fin] at entry ⊢
    rw [entry]
    by_cases hi' : (⟨i, hi⟩ : Winch) = w
    · subst hi'
      simp [hnot]
    · simp [hi']

end

end Sys2Proof.Machine
end

section
/-! PROOF. The working record and the geometry stay in their ranges, and V stays zero in the still modes (O48). -/

namespace Sys2Proof.Machine

set_option Elab.async false

/-! ## The working record -/

/-- The ranges and cross-checks of a record (R206, R208). -/
structure InRange (r : Record) : Prop where
  motion : motionInRange r.motion = true
  following : followingInRange r.following = true
  winch : ∀ w : Winch, winchInRange r.winch[w] = true ∧ winchConsistent r.winch[w] = true
  sag : sagInRange r.sag = true

theorem recordInRange_iff (s : State) : RecordInRange s ↔ InRange s.cs.record :=
  ⟨fun ⟨h1, h2, h3, h4⟩ => ⟨h1, h2, h3, h4⟩, fun ⟨h1, h2, h3, h4⟩ => ⟨h1, h2, h3, h4⟩⟩

theorem inRange_of_imagePasses {i : Image} (h : imagePasses i = true) : InRange i.record := by
  simp only [imagePasses, Bool.and_eq_true, List.all_eq_true] at h
  obtain ⟨⟨⟨⟨⟨⟨-, hmotion⟩, hfollowing⟩, hwinch⟩, hsag⟩, -⟩, -⟩ := h
  exact ⟨hmotion, hfollowing, fun w => hwinch _ (by simp), hsag⟩

section
variable {s u : State}

theorem writeMotion_cs (c : MotionCfg) (s : State) :
    (writeMotion c s).cs = { s.cs with record := { s.cs.record with motion := c } } := by
  unfold writeMotion
  dsimp only
  split
  · rfl
  · rw [(changes_settleMaxSpeed _).cs]
    rfl

theorem writeWinch_cs (w : Winch) (c : WinchCfg) (s : State) :
    (writeWinch w c s).cs = { s.cs with record := { s.cs.record with winch := put s.cs.record.winch w c } } := by
  have settled := (changes_settleLink w s).cs
  unfold writeWinch
  rw [(changes_winchWritten w _).cs]
  simp only [setRecord, settled]

theorem writeGeometry_cs (g : GeometryCfg) (s : State) :
    (writeGeometry g s).cs = { s.cs with record := { s.cs.record with geometry := g } } := by
  rw [writeGeometry_eq]
  split
  · exact (changes_reevaluate (setRecord { s.cs.record with geometry := g } s)).cs
  · rfl

/-- A write of a group leaves the record in its ranges. -/
theorem groupWrite_inRange {group : Group} {bs : List Byte} (h : InRange s.cs.record) (hw : groupWrite group bs s = some u) :
    InRange u.cs.record := by
  obtain ⟨hmotion, hfollowing, hwinch, hsag⟩ := h
  cases group with
  | geometry =>
    obtain ⟨g, -, rfl⟩ := Option.map_eq_some_iff.mp hw
    rw [writeGeometry_cs]
    exact ⟨hmotion, hfollowing, hwinch, hsag⟩
  | motion =>
    obtain ⟨c, hc, rfl⟩ := Option.map_eq_some_iff.mp hw
    rw [writeMotion_cs]
    exact ⟨(Option.filter_eq_some_iff.mp hc).2, hfollowing, hwinch, hsag⟩
  | following =>
    obtain ⟨c, hc, rfl⟩ := Option.map_eq_some_iff.mp hw
    rw [(changes_followingWritten _).cs]
    exact ⟨hmotion, (Option.filter_eq_some_iff.mp hc).2, hwinch, hsag⟩
  | winch =>
    cases bs with
    | nil => cases hw
    | cons n bs =>
      obtain ⟨w, -, hw⟩ := Option.bind_eq_some_iff.mp hw
      obtain ⟨c, hc, rfl⟩ := Option.map_eq_some_iff.mp hw
      rw [writeWinch_cs]
      refine ⟨hmotion, hfollowing, fun v => ?_, hsag⟩
      simp only [put_getElem]
      split
      · exact (Bool.and_eq_true _ _).mp (Option.filter_eq_some_iff.mp hc).2
      · exact hwinch v
  | sag =>
    obtain ⟨c, hc, rfl⟩ := Option.map_eq_some_iff.mp hw
    exact ⟨hmotion, hfollowing, hwinch, (Option.filter_eq_some_iff.mp hc).2⟩
  | matrix =>
    obtain ⟨m, -, rfl⟩ := Option.map_eq_some_iff.mp hw
    exact ⟨hmotion, hfollowing, hwinch, hsag⟩
  | ports =>
    obtain ⟨b, -, rfl⟩ := Option.map_eq_some_iff.mp hw
    exact ⟨hmotion, hfollowing, hwinch, hsag⟩
  | stored => cases hw

theorem ownerAnswer_inRange (h : InRange s.cs.record) (p : Port) (r : Request) : InRange (ownerAnswer p s r).state.cs.record := by
  cases r with
  | configWrite group bs => exact configWrite_keeps (I := fun u => InRange u.cs.record) h fun _ _ hw => groupWrite_inRange h hw
  | configSave =>
    refine refuse_keeps (I := fun u => InRange u.cs.record) h fun _ => ?_
    exact refuse_keeps (I := fun u => InRange u.cs.record) h fun _ => refuse_keeps (I := fun u => InRange u.cs.record) h fun _ => h
  | _ =>
    rw [(ownerAnswer_changes p s _).cs (by simp [ownerRegions])]
    exact h

theorem served_cs (p : Port) (s : State) (r : Request) : (served p s r).cs = (ownerAnswer p s r).state.cs := by
  cases r with
  | driveQuery winch code args => exact (changes_driveQueryRequest p winch code args s).cs
  | _ => rfl

theorem start_inRange (s : State) : InRange (start s).cs.record := by
  unfold start
  split
  · next hl => exact inRange_of_imagePasses (imagePasses_of_loaded hl)
  · exact inRange_of_imagePasses imagePasses_default

theorem endSave_record (image : Image) (s : State) : (endSave image s).cs.record = s.cs.record := by
  unfold endSave
  dsimp only
  split
  · rw [(changes_tellSu _ _ _).cs]
  · rfl

theorem event_inRange {c : Instr} (hc : isRequest c = false) (h : InRange s.cs.record) (e : exec c s = .next u) :
    InRange u.cs.record := by
  have changes := exec_changes e
  have ite {c : Prop} [Decidable c] {t v : State} (ht : InRange t.cs.record) (hv : InRange v.cs.record) :
      InRange (if c then t else v).cs.record := by
    split <;> assumption
  cases c
  all_goals simp only [exec, regionsOf] at e changes
  case powerOn => cases e; exact ite h (start_inRange s)
  case resetReleased => cases e; exact ite (start_inRange s) h
  case restartResponseSent => cases e; exact ite (start_inRange s) h
  case saveEnd =>
    unfold execSaveEnd at e
    split at e
    · cases e; exact h
    · refine onExpiry_keeps (I := fun u => InRange u.cs.record) h (fun _ _ k => k) (fun t k => ?_) e
      rw [endSave_record]
      exact k
  all_goals first
    | (cases hc; done)
    | (rw [changes.cs]; exact h)

theorem exec_inRange {c : Instr} (h : InRange s.cs.record) (e : exec c s = .next u) : InRange u.cs.record := by
  cases hc : isRequest c with
  | false => exact event_inRange hc h e
  | true =>
    obtain ⟨r, p, rfl⟩ := command_of_isRequest hc
    obtain k | ⟨r', -, -, k⟩ := exec_command_cases r p s
    · rw [k] at e; cases e; exact h
    · rw [k] at e; cases e
      rw [served_cs]
      exact ownerAnswer_inRange h p r'

end

/-! ## The cues' targets -/

/-- Every cue's target lies inside the volume (R15). -/
def CuesInside (s : State) : Prop := ∀ h c, s.ct.cue h = some c → insideVolume s.cs.record.geometry 0 (pointUm c.target) = true

theorem mem_cueTargets {s : State} {p : Vec3} : p ∈ cueTargets s ↔ ∃ h c, s.ct.cue h = some c ∧ c.target = p := by
  simp only [cueTargets, List.mem_filterMap, Option.map_eq_some_iff]
  exact ⟨fun ⟨h, _, c, hc⟩ => ⟨h, c, hc⟩, fun ⟨h, c, hc⟩ => ⟨h, mem_handles h, c, hc⟩⟩

/-- The cues of u are cues of s, marked perhaps otherwise. -/
def CuesFrom (s u : State) : Prop := ∀ h c', u.ct.cue h = some c' → ∃ c, s.ct.cue h = some c ∧ c.target = c'.target

section
variable {s t u : State}

theorem CuesFrom.of_slots (h : u.ct.slots = s.ct.slots) : CuesFrom s u := fun j c e => ⟨c, by simpa only [Ct.cue, h] using e, rfl⟩

theorem Flown.cuesFrom (h : Flown s u) : CuesFrom s u := fun j c e => ⟨c, h.cues j c e, rfl⟩

theorem recomputeCues_ct (s : State) : (recomputeCues s).ct = s.ct.marked s.cs.record.geometry := notifyAll_ct _ _

theorem marked_slot (g : GeometryCfg) (t : Ct) (h : CueHandle) : (t.marked g).slots[h] =
    { t.slots[h] with cue := (t.cue h).map (fun c => { c with blockers := blockersAt g t c.target }) } := Vector.getElem_map _ _

theorem marked_cue (g : GeometryCfg) (t : Ct) (h : CueHandle) :
    (t.marked g).cue h = (t.cue h).map (fun c => { c with blockers := blockersAt g t c.target }) :=
  congrArg CueSlot.cue (marked_slot g t h)

theorem recomputeCues_cuesFrom (ht : t.ct.slots = s.ct.slots) : CuesFrom s (recomputeCues t) := by
  intro h c' e
  rw [recomputeCues_ct, marked_cue] at e
  obtain ⟨c, hc, rfl⟩ := Option.map_eq_some_iff.mp e
  rw [Ct.cue, ht] at hc
  exact ⟨c, hc, rfl⟩

theorem CuesInside.of_cuesFrom (h : CuesInside s) (k : CuesFrom s u) (hg : u.cs.record.geometry = s.cs.record.geometry) : CuesInside u := by
  intro j c' e
  obtain ⟨c, hc, ht⟩ := k j c' e
  rw [hg, ← ht]
  exact h j c hc

theorem CuesInside.of_slots (h : CuesInside s) (k : u.ct.slots = s.ct.slots) (hg : u.cs.record.geometry = s.cs.record.geometry) :
    CuesInside u := h.of_cuesFrom (.of_slots k) hg

theorem CuesInside.carryOutStore {f : StoreFields} (h : CuesInside s) (hf : f.fit s.cs.record.geometry = true) (p : Port) (j : CueHandle) :
    CuesInside (carryOutStore p f j s).state := by
  intro i c e
  simp only [Machine.carryOutStore, notify_ct, notify_cs, Ct.cue, put_getElem] at e ⊢
  split at e
  · cases e
    simp only [StoreFields.fit, Bool.and_eq_true] at hf
    exact hf.1.1.1.2
  · exact h i c e

theorem CuesInside.writeGeometry {g : GeometryCfg} (hg : geometryConsistent g (zoneBoxes s) (cueTargets s) = true) :
    CuesInside (writeGeometry g s) := by
  have targets := ((geometryConsistent_iff _ _ _).mp hg).2.2
  have from' : CuesFrom s (Machine.writeGeometry g s) := by
    rw [writeGeometry_eq]
    split
    · exact recomputeCues_cuesFrom (congrArg Ct.slots (changes_reevaluate _).ct)
    · exact .of_slots rfl
  intro j c' e
  obtain ⟨c, hc, ht⟩ := from' j c' e
  rw [writeGeometry_cs, ← ht]
  exact targets _ (mem_cueTargets.mpr ⟨j, c, hc, rfl⟩)

theorem groupWrite_ct {group : Group} {bs : List Byte} (hg : group ≠ .geometry) (hw : groupWrite group bs s = some u) : u.ct = s.ct := by
  cases group with
  | geometry => exact absurd rfl hg
  | motion =>
    obtain ⟨c, -, rfl⟩ := Option.map_eq_some_iff.mp hw
    exact (changes_writeMotion c s).ct
  | following =>
    obtain ⟨c, -, rfl⟩ := Option.map_eq_some_iff.mp hw
    exact (changes_followingWritten _).ct
  | winch =>
    cases bs with
    | nil => cases hw
    | cons n bs =>
      obtain ⟨w, -, hw⟩ := Option.bind_eq_some_iff.mp hw
      obtain ⟨c, -, rfl⟩ := Option.map_eq_some_iff.mp hw
      exact (changes_writeWinch w c s).ct
  | sag =>
    obtain ⟨c, -, rfl⟩ := Option.map_eq_some_iff.mp hw
    rfl
  | matrix =>
    obtain ⟨m, -, rfl⟩ := Option.map_eq_some_iff.mp hw
    rfl
  | ports =>
    obtain ⟨b, -, rfl⟩ := Option.map_eq_some_iff.mp hw
    rfl
  | stored => cases hw

theorem CuesInside.groupWrite {group : Group} {bs : List Byte} (h : CuesInside s) (hw : groupWrite group bs s = some u) : CuesInside u := by
  by_cases hg : group = .geometry
  · subst hg
    obtain ⟨g, hc, rfl⟩ := Option.map_eq_some_iff.mp hw
    exact .writeGeometry (Option.filter_eq_some_iff.mp hc).2
  · exact h.of_slots (congrArg Ct.slots (groupWrite_ct hg hw)) (groupWrite_other hg hw).2

theorem CuesInside.ownerAnswer (h : CuesInside s) (p : Port) (r : Request) : CuesInside (ownerAnswer p s r).state := by
  have changes := ownerAnswer_changes p s r
  cases hf : flightRequest r with
  | true =>
    refine h.of_cuesFrom (ownerAnswer_flown hf p s).cuesFrom ?_
    rw [changes.cs (by cases r <;> first | (cases hf; done) | simp [ownerRegions])]
  | false =>
    cases r with
    | cueStore handle label target cruise tolerance dwell =>
      simp only [Machine.ownerAnswer, cueStore]
      split
      · exact h
      · refine refuse_keeps h fun _ => refuse_keeps h fun hfit => ?_
        have fit : StoreFields.fit ⟨label, target, cruise, tolerance, dwell⟩ s.cs.record.geometry = true := by simpa using hfit
        split
        · exact refuse_keeps h fun _ => h.carryOutStore fit p _
        · split
          · exact h.carryOutStore fit p _
          · exact h
    | configWrite group bs => exact configWrite_keeps h fun _ _ hw => h.groupWrite hw
    | configSave => exact refuse_keeps h fun _ => refuse_keeps h fun _ => refuse_keeps h fun _ => h
    | cueDrop | queueAdd | queueTake | queueSkip | queueClear | launch | jog | hold | returnDock | stop | resume => cases hf
    | _ =>
      refine h.of_slots (congrArg Ct.slots (changes.ct (by simp [ownerRegions]))) ?_
      rw [changes.cs (by simp [ownerRegions])]

theorem CuesInside.served (h : CuesInside s) (p : Port) (r : Request) : CuesInside (served p s r) := by
  have answered := h.ownerAnswer p r
  cases r with
  | driveQuery winch code args =>
    have changes := changes_driveQueryRequest p winch code args s
    exact h.of_slots (congrArg Ct.slots changes.ct) (congrArg (fun x : Cs => x.record.geometry) changes.cs)
  | _ => exact answered.of_slots rfl rfl

theorem CuesInside.start (s : State) : CuesInside (start s) := by
  have empty (r : Record) (zones : List StoredZone) (b : Bool) : CuesInside (startWith r zones b s) := by
    intro j c e
    simp [startWith, Ct.cue, Ct.reset] at e
  unfold Machine.start
  split <;> exact empty _ _ _

theorem servoStep_slots (s : State) : (servoStep s).ct.slots = s.ct.slots := by
  unfold servoStep
  dsimp only
  rw [(changes_settleMaxSpeed _).ct, ((stage8_frame _ _).trans (reportQueue_frame _ _)).slots]
  unfold handOnStep
  rw [(changes_updateLowPass _ _).ct, (updatePinned_frame _ _).slots, (changes_sendAllowance _ _).ct]
  show (startRound (handTargets _)).ct.slots = _
  rw [(changes_startRound _).ct, (handTargets_frame _).slots]
  rfl

theorem CuesInside.event {c : Instr} (hc : isRequest c = false) (h : CuesInside s) (e : exec c s = .next u) : CuesInside u := by
  have part : ∀ (s : State) x, CuesInside s → CuesInside { s with part := x } := fun _ _ k => k.of_slots rfl rfl
  have changes := exec_changes e
  have ite {c : Prop} [Decidable c] {t v : State} (ht : CuesInside t) (hv : CuesInside v) : CuesInside (if c then t else v) := by
    split <;> assumption
  cases hf : flightEvent c with
  | true =>
    refine h.of_cuesFrom (exec_flown hf e).cuesFrom ?_
    rw [changes.cs (by cases c <;> first | (cases hf; done) | simp [regionsOf])]
  | false =>
    cases c
    all_goals simp only [exec, regionsOf] at e changes
    case powerOn => cases e; exact ite (h.of_slots rfl rfl) (.start s)
    case resetReleased => cases e; exact ite (.start s) (h.of_slots rfl rfl)
    case restartResponseSent => cases e; exact ite (.start s) h
    case servoStep =>
      refine onExpiry_keeps h part (fun t k => k.of_slots (servoStep_slots t) ?_) e
      rw [(changes_servoStep t).cs]
    case changeReportCt =>
      unfold execChangeReportCt at e
      split at e
      · cases e; exact h
      · refine whileRunning_keeps h ?_ e
        exact h.of_cuesFrom (recomputeCues_cuesFrom rfl) rfl
    case allowanceReport =>
      unfold execAllowanceReport at e
      split at e
      · cases e; exact h
      · refine whileRunning_keeps h ?_ e
        exact h.of_cuesFrom (recomputeCues_cuesFrom rfl) rfl
    case estopReleased =>
      cases e
      refine ite (h.of_slots ?_ ?_) (h.of_slots rfl rfl)
      · exact congrArg Ct.slots (changes_clearCondition _ _).ct
      · rw [(changes_clearCondition _ _).cs]
        rfl
    case saveEnd =>
      refine h.of_slots (congrArg Ct.slots changes.ct) ?_
      unfold execSaveEnd at e
      split at e
      · cases e; rfl
      · refine onExpiry_keeps (I := fun u => u.cs.record.geometry = s.cs.record.geometry) rfl (fun _ _ k => k) (fun t k => ?_) e
        rw [endSave_record]
        exact k
    all_goals first
      | (cases hc; done)
      | (cases hf; done)
      | exact h.of_slots (congrArg Ct.slots changes.ct) (by rw [changes.cs])

theorem CuesInside.exec {c : Instr} (h : CuesInside s) (e : exec c s = .next u) : CuesInside u := by
  cases hc : isRequest c with
  | false => exact h.event hc e
  | true =>
    obtain ⟨r, p, rfl⟩ := command_of_isRequest hc
    obtain k | ⟨r', -, -, k⟩ := exec_command_cases r p s
    · rw [k] at e; cases e; exact h
    · rw [k] at e; cases e; exact h.served p r'

end

/-! ## The geometry -/

theorem consistent_invariant : TableInvariant (fun g _ => geometryConsistent g [] [] = true) where
  same _ h := h
  renews _ _ _ _ h := h
  settles _ h := h
  evaluates _ _ hg h := by
    obtain rfl | hg := hg
    · exact h
    · exact ((geometryConsistent_iff _ _ _).mp hg).1
  invalidates _ _ h := h
  regauges hg _ _ := ((geometryConsistent_iff _ _ _).mp hg).1
  starts i hi := by
    simp only [imagePasses, Bool.and_eq_true] at hi
    exact ((geometryConsistent_iff _ _ _).mp hi.1.1.1.1.1.1).1

theorem geometrySound_iff (s : State) : GeometrySound s ↔
    OnTable (fun g _ => geometryConsistent g [] [] = true) s ∧
    OnTable (fun g t => t.Each (fun g z => boxWithinVolume g z.box = true) g) s ∧ CuesInside s := by
  unfold GeometrySound
  rw [geometryConsistent_iff]
  refine and_congr Iff.rfl (and_congr ⟨fun h j z hz => ?_, fun h b hb => ?_⟩ ⟨fun h j c hc => ?_, fun h p hp => ?_⟩)
  · exact h _ (mem_boxes.mpr ⟨j, z, hz, rfl⟩)
  · obtain ⟨j, z, hz, rfl⟩ := mem_boxes.mp hb
    exact h j z hz
  · exact h _ (mem_cueTargets.mpr ⟨j, c, hc, rfl⟩)
  · obtain ⟨j, c, hc, rfl⟩ := mem_cueTargets.mp hp
    exact h j c hc

theorem geometrySound_exec {c : Instr} {s u : State} (h : GeometrySound s) (e : exec c s = .next u) : GeometrySound u := by
  obtain ⟨hg, hboxes, hcues⟩ := (geometrySound_iff s).mp h
  exact (geometrySound_iff u).mpr
    ⟨OnTable.exec consistent_invariant hg e, OnTable.exec (zone_invariant inVolume_property) hboxes e, hcues.exec e⟩

/-- Settles O48: V is zero where the modes' records say so, the servo step included, and each of the other properties is kept too. -/
theorem velocityIsZeroInTheStillModes : Obligations.VelocityIsZeroInTheStillModes := by
  unfold Obligations.VelocityIsZeroInTheStillModes
  refine Kept.of_exec (fun _ _ h => h) (fun _ _ h => h) fun c s u ⟨hrecord, hgeometry, hq, hrecords, hstill⟩ e => ?_
  have queue := (shotQueueSound_iff s).mp hq
  have records := (modeRecordsSound_iff s).mp hrecords
  have records' : RecordsFit u.fc.mode u.fc.records :=
    OnFlight.exec records_invariant hq records ⟨records.run, records.evict, records.legGoal, records.deadman, records.jogDemand,
      records.launchTimer, records.settleTimer⟩ e
  have still' : u.fc.mode.still = true → u.fc.v = .zero :=
    OnFlight.exec still_invariant hq hstill (fun hm => stepMotion_v_of_still s.cs.record s.lm.a hm (hstill hm)) e
  exact ⟨(recordInRange_iff u).mpr (exec_inRange ((recordInRange_iff s).mp hrecord) e), geometrySound_exec hgeometry e,
    (shotQueueSound_iff u).mpr (OnFlight.exec queue_invariant hq queue queue e), (modeRecordsSound_iff u).mpr records', still'⟩

end Sys2Proof.Machine
end

section
/-! PROOF. What every step keeps of the Status Unit and of the Load Monitor, and the settling of O59. -/

namespace Sys2Proof.Machine

set_option Elab.async false

/-! ## The Status Unit -/

/-- A property that all which SU does keeps: a change of a condition or of the airborne indication with the selection after it, the end of
a period, and an acknowledgement. -/
structure SuInvariant (I : Su → Prop) : Prop where
  marks : ∀ now n c u, (c.live = true → c.latched = true) ∨ c = ⟨false, u.conds[n].latched⟩ → I u →
    I (Su.reselect now { u with conds := put u.conds n c })
  indicates : ∀ now b u, I u → I (Su.reselect now { u with airborne := b })
  bounds : ∀ due u, I u → I { u with driven := u.wanted, periodStart := due }
  acknowledges : ∀ n u, u.conds[n].live = false → I u → I { u with conds := put u.conds n ⟨false, false⟩ }
  starts : ∀ b b', I (.reset b b')

/-- The Status Unit has a property. -/
def OnSu (I : Su → Prop) (s : State) : Prop := I s.su

section
variable {I : Su → Prop} {s u : State}

theorem OnSu.of_su (h : OnSu I s) (e : u.su = s.su) : OnSu I u := by
  unfold OnSu
  rw [e]
  exact h

variable (hI : SuInvariant I)
include hI

theorem OnSu.raiseCondition (n : Fin 43) (h : OnSu I s) : OnSu I (raiseCondition n s) := by
  unfold Machine.raiseCondition
  split
  · exact h
  · exact hI.marks _ n ⟨true, true⟩ _ (.inl fun _ => rfl) h

theorem OnSu.clearCondition (n : Fin 43) (h : OnSu I s) : OnSu I (clearCondition n s) := by
  unfold Machine.clearCondition
  split
  · exact hI.marks _ n _ _ (.inr rfl) h
  · exact h

theorem OnSu.setAirborne (b : Bool) (h : OnSu I s) : OnSu I (setAirborne b s) := by
  unfold Machine.setAirborne
  split
  · exact h
  · exact hI.indicates _ b _ h

theorem acknowledgeOne_keeps (n : Fin 43) {x : Su} (h : I x) : I (acknowledgeOne x n) := by
  unfold acknowledgeOne
  split
  · exact h
  · next hn => exact hI.acknowledges n x (by simpa using hn) h

theorem acknowledged_keeps (ns : List (Fin 43)) {x : Su} (h : I x) : I (ns.foldl acknowledgeOne x) := by
  induction ns generalizing x with
  | nil => exact h
  | cons n ns ih => exact ih (acknowledgeOne_keeps hI n h)

theorem OnSu.acknowledge (number : Byte) (h : OnSu I s) : OnSu I (acknowledge number s).state := by
  unfold Machine.acknowledge
  split
  · exact h
  · exact acknowledged_keeps hI _ h

theorem OnSu.start (s : State) : OnSu I (start s) := by
  unfold Machine.start
  split <;> exact hI.starts _ _

theorem OnSu.ownerAnswer (h : OnSu I s) (p : Port) (r : Request) : OnSu I (ownerAnswer p s r).state := by
  have changes := ownerAnswer_changes p s r
  cases r with
  | acknowledge number => exact h.acknowledge hI number
  | configWrite group bs => exact h.of_su (changes.su (by simp [ownerRegions, writeRegions]))
  | _ => exact h.of_su (changes.su (by simp [ownerRegions]))

theorem OnSu.served (h : OnSu I s) (p : Port) (r : Request) : OnSu I (served p s r) := by
  have answered := h.ownerAnswer hI p r
  cases r with
  | driveQuery winch code args => exact h.of_su (changes_driveQueryRequest p winch code args s).su
  | _ => exact answered.of_su rfl

omit hI in
theorem takeSu_keeps {J : State → Prop} {b : Block} {effect : SuMsg → Option (State → State)} (h : J s)
    (hchan : ∀ s x, J s → J { s with chan := x }) (hf : ∀ m f, effect m = some f → ∀ t, J t → J (f t))
    (e : takeSu b effect s = .next u) : J u := by
  obtain he | ⟨m, rest, f, -, hm, -, he⟩ := takeSu_cases b effect s
  · rw [he] at e; cases e; exact h
  · rw [he] at e; cases e; exact hf m f hm _ (hchan s _ h)

theorem OnSu.event {c : Instr} (hc : isRequest c = false) (h : OnSu I s) (e : exec c s = .next u) : OnSu I u := by
  have part : ∀ (s : State) x, OnSu I s → OnSu I { s with part := x } := fun _ _ k => k
  have chan : ∀ (s : State) x, OnSu I s → OnSu I { s with chan := x } := fun _ _ k => k
  have changes := exec_changes e
  have ite {c : Prop} [Decidable c] {t v : State} (ht : OnSu I t) (hv : OnSu I v) : OnSu I (if c then t else v) := by
    split <;> assumption
  cases c
  all_goals simp only [exec, regionsOf] at e changes
  case powerOn => cases e; exact ite h (.start hI s)
  case resetReleased => cases e; exact ite (.start hI s) h
  case restartResponseSent => cases e; exact ite (.start hI s) h
  case estopAsserted =>
    cases e
    exact ite (OnSu.raiseCondition hI _ (h.of_su (changes_raiseCause _ _).su)) h
  case estopReleased =>
    cases e
    exact ite (OnSu.clearCondition hI _ h) h
  case periodBoundary =>
    unfold execPeriodBoundary at e
    split at e
    · next due _ => exact onExpiry_keeps (f := takeBoundary due) h part (fun t k => hI.bounds due _ k) e
    · cases e; exact h
  case conditionRaiseAtSu b =>
    refine takeSu_keeps h chan (fun m f hf t k => ?_) e
    split at hf
    · cases hf; exact k.raiseCondition hI _
    · cases hf
  case conditionClearAtSu b =>
    refine takeSu_keeps h chan (fun m f hf t k => ?_) e
    split at hf
    · cases hf; exact k.clearCondition hI _
    · cases hf
  case airborneIndication =>
    refine takeSu_keeps h chan (fun m f hf t k => ?_) e
    split at hf
    · cases hf; exact k.setAirborne hI _
    · cases hf
  all_goals first
    | (cases hc; done)
    | exact h.of_su changes.su

theorem OnSu.exec {c : Instr} (h : OnSu I s) (e : exec c s = .next u) : OnSu I u := by
  cases hc : isRequest c with
  | false => exact h.event hI hc e
  | true =>
    obtain ⟨r, p, rfl⟩ := command_of_isRequest hc
    obtain k | ⟨r', -, -, k⟩ := exec_command_cases r p s
    · rw [k] at e; cases e; exact h
    · rw [k] at e; cases e; exact h.served hI p r'

theorem SuInvariant.kept : Kept (OnSu I) :=
  Kept.of_exec (fun _ _ h => h) (fun _ _ h => h) fun _ _ _ h e => h.exec hI e

end

theorem reselect_conds (now : PartTime) (u : Su) : (u.reselect now).conds = u.conds := by
  unfold Su.reselect
  split <;> rfl

/-- A live condition is latched (R200). -/
def Su.covers (u : Su) : Prop := ∀ n : Fin 43, u.conds[n].live = true → u.conds[n].latched = true

theorem covers_invariant : SuInvariant Su.covers where
  marks now n c u hc h j hj := by
    rw [reselect_conds] at hj ⊢
    simp only [put_getElem] at hj ⊢
    split at hj
    · next hjn =>
      rw [if_pos hjn]
      obtain hc | rfl := hc
      · exact hc hj
      · cases hj
    · next hjn =>
      rw [if_neg hjn]
      exact h j hj
  indicates now b u h j hj := by
    rw [reselect_conds] at hj ⊢
    exact h j hj
  bounds _ _ h := h
  acknowledges n u hn h j hj := by
    simp only [put_getElem] at hj ⊢
    split at hj
    · cases hj
    · next hjn =>
      rw [if_neg hjn]
      exact h j hj
  starts b b' j hj := by
    simp only [Su.reset, Fin.getElem_fin, Vector.getElem_set] at hj ⊢
    split
    · next he => rwa [if_pos he] at hj
    · next he =>
      rw [if_neg he] at hj
      split
      · next he' => rwa [if_pos he'] at hj
      · next he' => rw [if_neg he'] at hj; simp at hj

/-- STEADY is driven exactly while it is wanted, and OFF only while it is wanted (R202). -/
def Su.steady (u : Su) : Prop := (u.driven = .steady ↔ u.wanted = .steady) ∧ (u.driven = .off → u.wanted = .off)

theorem wanted_congr {u v : Su} (hlive : ∀ n : Fin 43, v.conds[n].live = u.conds[n].live) (hair : v.airborne = u.airborne) :
    v.wanted = u.wanted := by
  have liveAt (x : Severity) : v.liveAt x = u.liveAt x := by simp only [Su.liveAt, hlive]
  simp only [Su.wanted, Su.highest, liveAt, hair]

/-- The selection drives STEADY at once, and leaves OFF at once. -/
theorem reselect_steady (now : PartTime) (u : Su) : (u.reselect now).steady := by
  unfold Su.reselect
  split
  · exact ⟨Iff.rfl, id⟩
  · next hc =>
    by_cases he : u.wanted = u.driven
    · exact ⟨by rw [he], fun h => he.trans h⟩
    · have waits : u.wanted ≠ .steady ∧ u.driven ≠ .off ∧ u.driven ≠ .steady :=
        ⟨fun h => hc ⟨he, .inl h⟩, fun h => hc ⟨he, .inr (.inl h)⟩, fun h => hc ⟨he, .inr (.inr h)⟩⟩
      obtain ⟨hw, hoff, hsteady⟩ := waits
      exact ⟨⟨fun h => absurd h hsteady, fun h => absurd h hw⟩, fun h => absurd h hoff⟩

theorem steady_invariant : SuInvariant Su.steady where
  marks _ _ _ _ _ _ := reselect_steady _ _
  indicates _ _ _ _ := reselect_steady _ _
  bounds _ u _ := ⟨Iff.rfl, id⟩
  acknowledges n u hn h := by
    have same : Su.wanted { u with conds := put u.conds n ⟨false, false⟩ } = u.wanted := by
      refine wanted_congr (fun j => ?_) rfl
      simp only [put_getElem]
      split
      · next hj => rw [hj, hn]
      · rfl
    unfold Su.steady
    rw [same]
    exact h
  starts b b' := by
    have started : ∀ b b', ((Su.reset b b').driven = .steady ↔ (Su.reset b b').wanted = .steady) ∧
        ((Su.reset b b').driven = .off → (Su.reset b b').wanted = .off) := by decide
    exact started b b'

/-! ## The Load Monitor -/

/-- A property of the working record and of the Load Monitor that all which LM does keeps. -/
structure LoadInvariant (I : Record → Lm → Prop) : Prop where
  measures : ∀ (s : State) w m a, I s.cs.record s.lm → I s.cs.record (takeSet w m a s).lm
  rewrites : ∀ (s : State) w, I s.cs.record s.lm → I s.cs.record (winchWritten w s).lm
  follows : ∀ s : State, I s.cs.record s.lm → I s.cs.record (followingWritten s).lm
  retargets : ∀ r l, I r l → I r { l with aStar := allowanceTarget r.sag l }
  rounds : ∀ r l, I r l → I r { l with a := allowanceAfter r.sag l.a l.aStar }
  slackens : ∀ r l w, I r l → I r { l with winches := put l.winches w { l.winches[w] with slack := .live } }
  strays : ∀ r l w, I r l → I r { l with winches := put l.winches w { l.winches[w] with follow := .live } }
  records : ∀ r r' l, (InRange r → InRange r') → I r l → I r' l
  starts : ∀ r, InRange r → I r .reset

/-- The working record and the Load Monitor have a property. -/
def OnLoads (I : Record → Lm → Prop) (s : State) : Prop := I s.cs.record s.lm

section
variable {I : Record → Lm → Prop} {s u : State}

theorem OnLoads.of_eq (h : OnLoads I s) (hr : u.cs.record = s.cs.record) (hl : u.lm = s.lm) : OnLoads I u := by
  unfold OnLoads
  rw [hr, hl]
  exact h

variable (hI : LoadInvariant I)
include hI

theorem OnLoads.completeRound (h : OnLoads I s) : OnLoads I (completeRound s) := hI.rounds _ _ h

theorem OnLoads.takeMeasurements (w : Winch) (m : Measurement) (a : Int × Command) (h : OnLoads I s) :
    OnLoads I (takeMeasurements w m a s) := by
  have stored : OnLoads I
      { setLink w { s.wlc[w] with meas := some m } s with fc := { s.fc with lengths := put s.fc.lengths w (some m.length) } } :=
    h.of_eq rfl rfl
  have taken := hI.measures _ w m a stored
  unfold OnLoads
  rw [Machine.takeMeasurements, (changes_takeSet w m a _).cs]
  exact taken

theorem OnLoads.closeByFrame (w : Winch) (t : Target) (f : StateFields) (h : OnLoads I s) : OnLoads I (closeByFrame w t f s) := by
  have ite {c : Prop} [Decidable c] {t v : State} (ht : OnLoads I t) (hv : OnLoads I v) : OnLoads I (if c then t else v) := by
    split <;> assumption
  unfold Machine.closeByFrame
  extract_lets parts l0 src l s1 s2 s3
  have h1 : OnLoads I s1 := h.of_eq rfl rfl
  have h2 : OnLoads I s2 := ite (h1.takeMeasurements hI w _ _) h1
  have h3 : OnLoads I s3 :=
    ite (h2.of_eq (congrArg Cs.record (changes_takeStatus w f s2).cs) (changes_takeStatus w f s2).lm) h2
  exact ite h3 (h3.completeRound hI)

theorem OnLoads.linkByte (w : Winch) (b : Byte) (h : OnLoads I s) : OnLoads I (linkByte w b s) := by
  have ite {c : Prop} [Decidable c] {t v : State} (ht : OnLoads I t) (hv : OnLoads I v) : OnLoads I (if c then t else v) := by
    split <;> assumption
  have ends (f : List Byte) : OnLoads I (frameEnds w f s) := by
    have changes := changes_settleLink w (setLink w { s.wlc[w] with rx := [] } s)
    have settled : OnLoads I (settleLink w (setLink w { s.wlc[w] with rx := [] } s)) :=
      h.of_eq (congrArg Cs.record changes.cs) changes.lm
    unfold frameEnds judgeFrame
    dsimp only
    generalize settleLink w _ = t at settled ⊢
    have bad : OnLoads I (badCheck w t) := settled.of_eq rfl rfl
    have stale : OnLoads I (staleSeq w t) := settled.of_eq rfl rfl
    split
    · refine ite bad ?_
      split
      · exact ite (settled.closeByFrame hI w _ _) stale
      · exact stale
    · exact bad
  unfold Machine.linkByte
  dsimp only
  refine ite (ite (h.of_eq rfl rfl) h) ?_
  split
  · exact ite (h.of_eq rfl rfl) (ends _)
  · exact h.of_eq rfl rfl

theorem OnLoads.linkBytes (w : Winch) (bs : List Byte) (h : OnLoads I s) : OnLoads I (bs.foldl (fun s b => Machine.linkByte w b s) s) := by
  induction bs generalizing s with
  | nil => exact h
  | cons b bs ih => exact ih (h.linkByte hI w b)

theorem OnLoads.startRound (h : OnLoads I s) : OnLoads I (startRound s) := by
  have changes : ChangesOnly [.wlc, .cif, .chan] s ((handles 4).foldl (fun s w => missOpen w s) s) :=
    .foldl (fun s w => changes_missOpen w s) _ s
  have missed : OnLoads I ((handles 4).foldl (fun s w => missOpen w s) s) := h.of_eq (congrArg Cs.record changes.cs) changes.lm
  unfold Machine.startRound
  dsimp only
  generalize (handles 4).foldl _ s = t at missed
  split
  · exact hI.rounds _ _ missed
  · exact missed

theorem OnLoads.servoStep (h : OnLoads I s) : OnLoads I (servoStep s) := by
  have through {rs : List Region} {t v : State} (ht : OnLoads I t) (hc : ChangesOnly rs t v)
      (hcs : Region.cs ∉ rs := by simp) (hlm : Region.lm ∉ rs := by simp) : OnLoads I v :=
    ht.of_eq (congrArg Cs.record (hc.cs hcs)) (hc.lm hlm)
  unfold Machine.servoStep
  dsimp only
  refine through ?_ (changes_settleMaxSpeed _)
  refine through ?_ ((stage8_frame _ _).trans (reportQueue_frame _ _)).changes
  unfold handOnStep
  refine through ?_ (changes_updateLowPass _ _)
  refine through ?_ (updatePinned_frame _ _).changes
  refine through ?_ (changes_sendAllowance _ _)
  refine OnLoads.of_eq (OnLoads.startRound hI (through ?_ (handTargets_frame _).changes)) rfl rfl
  exact h.of_eq rfl rfl

theorem OnLoads.start (s : State) : OnLoads I (start s) := by
  have started (r : Record) (zones : List StoredZone) (b : Bool) (hr : InRange r) : OnLoads I (startWith r zones b s) := hI.starts r hr
  unfold Machine.start
  split
  · next hl => exact started _ _ _ (inRange_of_imagePasses (imagePasses_of_loaded hl))
  · exact started _ _ _ (inRange_of_imagePasses imagePasses_default)

/-- A record that is written, on a monitor that stands. -/
theorem OnLoads.setRecord {r : Record} (h : OnLoads I s) (hr : InRange s.cs.record → InRange r) : OnLoads I (setRecord r s) :=
  hI.records _ _ _ hr h

theorem OnLoads.groupWrite {group : Group} {bs : List Byte} (h : OnLoads I s) (hw : groupWrite group bs s = some u) : OnLoads I u := by
  have range : InRange s.cs.record → InRange u.cs.record := fun hr => groupWrite_inRange hr hw
  cases group with
  | geometry =>
    obtain ⟨g, -, rfl⟩ := Option.map_eq_some_iff.mp hw
    unfold OnLoads
    rw [(changes_writeGeometry g s).lm]
    exact hI.records _ _ _ range h
  | motion =>
    obtain ⟨c, -, rfl⟩ := Option.map_eq_some_iff.mp hw
    unfold OnLoads
    rw [(changes_writeMotion c s).lm]
    exact hI.records _ _ _ range h
  | following =>
    obtain ⟨c, -, rfl⟩ := Option.map_eq_some_iff.mp hw
    rw [(changes_followingWritten _).cs] at range
    have written := hI.follows _ (h.setRecord hI range)
    unfold OnLoads
    rw [(changes_followingWritten _).cs]
    exact written
  | winch =>
    cases bs with
    | nil => cases hw
    | cons n bs =>
      obtain ⟨w, -, hw⟩ := Option.bind_eq_some_iff.mp hw
      obtain ⟨c, -, rfl⟩ := Option.map_eq_some_iff.mp hw
      have settled : OnLoads I (settleLink w s) :=
        h.of_eq (congrArg Cs.record (changes_settleLink w s).cs) (changes_settleLink w s).lm
      have range' : InRange (settleLink w s).cs.record →
          InRange { (settleLink w s).cs.record with winch := put (settleLink w s).cs.record.winch w c } := by
        rw [writeWinch_cs] at range
        rw [(changes_settleLink w s).cs]
        exact range
      have written := hI.rewrites _ w (settled.setRecord hI range')
      unfold OnLoads writeWinch
      rw [(changes_winchWritten w _).cs]
      exact written
  | sag =>
    obtain ⟨c, -, rfl⟩ := Option.map_eq_some_iff.mp hw
    exact hI.retargets _ _ (h.setRecord hI range)
  | matrix =>
    obtain ⟨m, -, rfl⟩ := Option.map_eq_some_iff.mp hw
    exact h.setRecord hI range
  | ports =>
    obtain ⟨b, -, rfl⟩ := Option.map_eq_some_iff.mp hw
    exact h.setRecord hI range
  | stored => cases hw

theorem OnLoads.ownerAnswer (h : OnLoads I s) (p : Port) (r : Request) : OnLoads I (ownerAnswer p s r).state := by
  have changes := ownerAnswer_changes p s r
  cases r with
  | configWrite group bs => exact configWrite_keeps h fun _ _ hw => h.groupWrite hI hw
  | configSave =>
    exact refuse_keeps h fun _ => refuse_keeps h fun _ => refuse_keeps h fun _ => h
  | _ => exact h.of_eq (congrArg Cs.record (changes.cs (by simp [ownerRegions]))) (changes.lm (by simp [ownerRegions]))

theorem OnLoads.served (h : OnLoads I s) (p : Port) (r : Request) : OnLoads I (served p s r) := by
  have answered := h.ownerAnswer hI p r
  cases r with
  | driveQuery winch code args =>
    have changes := changes_driveQueryRequest p winch code args s
    exact h.of_eq (congrArg Cs.record changes.cs) changes.lm
  | _ => exact answered.of_eq rfl rfl

theorem OnLoads.event {c : Instr} (hc : isRequest c = false) (h : OnLoads I s) (e : exec c s = .next u) : OnLoads I u := by
  have part : ∀ (s : State) x, OnLoads I s → OnLoads I { s with part := x } := fun _ _ k => k
  have changes := exec_changes e
  have ite {c : Prop} [Decidable c] {t v : State} (ht : OnLoads I t) (hv : OnLoads I v) : OnLoads I (if c then t else v) := by
    split <;> assumption
  cases c
  all_goals simp only [exec, regionsOf] at e changes
  case powerOn => cases e; exact ite h (.start hI s)
  case resetReleased => cases e; exact ite (.start hI s) h
  case restartResponseSent => cases e; exact ite (.start hI s) h
  case servoStep => exact onExpiry_keeps h part (fun t k => k.servoStep hI) e
  case stateFrame w bs => exact whileRunning_keeps h (h.linkBytes hI w bs) e
  case slackTimerExpiry w =>
    refine onExpiry_keeps h part (fun t k => ?_) e
    rw [lmCause_eq, lmCondition_eq]
    exact hI.slackens _ _ w k
  case followTimerExpiry w =>
    refine onExpiry_keeps h part (fun t k => ?_) e
    rw [lmCause_eq, lmCondition_eq]
    exact hI.strays _ _ w k
  case saveEnd =>
    unfold execSaveEnd at e
    split at e
    · cases e; exact h
    · refine onExpiry_keeps h part (fun t k => k.of_eq (endSave_record _ t) ?_) e
      unfold endSave
      dsimp only
      split
      · exact (changes_tellSu _ _ _).lm
      · rfl
  all_goals first
    | (cases hc; done)
    | exact h.of_eq (congrArg Cs.record changes.cs) changes.lm

theorem OnLoads.exec {c : Instr} (h : OnLoads I s) (e : exec c s = .next u) : OnLoads I u := by
  cases hc : isRequest c with
  | false => exact h.event hI hc e
  | true =>
    obtain ⟨r, p, rfl⟩ := command_of_isRequest hc
    obtain k | ⟨r', -, -, k⟩ := exec_command_cases r p s
    · rw [k] at e; cases e; exact h
    · rw [k] at e; cases e; exact h.served hI p r'

theorem LoadInvariant.kept : Kept (OnLoads I) :=
  Kept.of_exec (fun _ _ h => h) (fun _ _ h => h) fun _ _ _ h e => h.exec hI e

end

/-! ## The flags follow the comparators -/

theorem refresh_winches {l : Lm} {w : Winch} {m : LmWinch} (h : l = l.refresh) (hh : m.tensionHigh = l.winches[w].tensionHigh)
    (hw : m.motorWarm = l.winches[w].motorWarm) (ht : m.motorHot = l.winches[w].motorHot) :
    { l with winches := put l.winches w m } = Lm.refresh { l with winches := put l.winches w m } := by
  have high : l.high = (l.load w m).high := (congrArg Lm.high (load_self h w)).symm.trans (load_high_congr hh.symm)
  have warm : l.warm = (l.load w m).warm := (congrArg Lm.warm (load_self h w)).symm.trans (load_warm_congr hw.symm)
  have hot : l.hot = (l.load w m).hot := (congrArg Lm.hot (load_self h w)).symm.trans (load_hot_congr ht.symm)
  exact eq_load rfl high warm hot rfl rfl

theorem refresh_allowance {l : Lm} (h : l = l.refresh) (a aStar : Int) :
    { l with a := a, aStar := aStar } = Lm.refresh { l with a := a, aStar := aStar } :=
  congrArg (fun x : Lm => { x with a := a, aStar := aStar }) h

theorem takeFollow_refresh {s : State} (h : s.lm = s.lm.refresh) (w : Winch) (new : TimedComparator) :
    (takeFollow w new s).lm = (takeFollow w new s).lm.refresh := refresh_winches h rfl rfl rfl

theorem followChecks_refresh (ws : List Winch) {s : State} (h : s.lm = s.lm.refresh) :
    (ws.foldl (fun s w => applyFollowCheck w s) s).lm = (ws.foldl (fun s w => applyFollowCheck w s) s).lm.refresh := by
  induction ws generalizing s with
  | nil => exact h
  | cons w ws ih =>
    refine ih (s := applyFollowCheck w s) ?_
    rw [applyFollowCheck_eq]
    exact takeFollow_refresh h w _

theorem flags_invariant : LoadInvariant (fun _ l => l = l.refresh) where
  measures s w m a h := by
    rw [takeSet_eq h]
    exact refresh_allowance (refresh_load _ _ _) _ _
  rewrites s w h := by
    rw [winchWritten_eq h]
    exact refresh_allowance (refresh_load _ _ _) _ _
  follows s h := followChecks_refresh _ h
  retargets _ _ h := refresh_allowance h _ _
  rounds _ _ h := refresh_allowance h _ _
  slackens _ _ _ h := refresh_winches h rfl rfl rfl
  strays _ _ _ h := refresh_winches h rfl rfl rfl
  records _ _ _ _ h := h
  starts _ _ := by decide

/-! ## The allowance -/

theorem allowanceTarget_range (c : SagCfg) (l : Lm) : 0 ≤ allowanceTarget c l ∧ allowanceTarget c l ≤ 2000000 := by
  unfold allowanceTarget
  split
  · next k t _ _ _ =>
    generalize (c.tRef - t) * k = x
    omega
  · omega

theorem allowanceAfter_range {c : SagCfg} {a target : Int} (hc : sagInRange c = true) (ha : 0 ≤ a ∧ a ≤ 2000000)
    (ht : 0 ≤ target ∧ target ≤ 2000000) : 0 ≤ allowanceAfter c a target ∧ allowanceAfter c a target ≤ 2000000 := by
  simp only [sagInRange, within, Bool.and_eq_true, decide_eq_true_eq] at hc
  obtain ⟨⟨-, hrise⟩, hfall⟩ := hc
  unfold allowanceAfter
  split
  · exact ht
  · split
    · omega
    · split <;> omega

section
variable (w : Winch) (m : LoadSet) (s : State)

/-- The allowance and its target. -/
def sag (s : State) : Int × Int := (s.lm.aStar, s.lm.a)

theorem sag_setLm (x : LmWinch) : sag (setLm w x s) = sag s := rfl
theorem sag_lmCondition (n : Fin 43) (b : Bool) : sag (lmCondition n b s) = sag s := by rw [lmCondition_eq]; rfl
theorem sag_lmCause (c : Cause) (b : Bool) : sag (lmCause c b s) = sag s := by rw [lmCause_eq]; rfl
theorem sag_updateHigh : sag (updateHigh s) = sag s := by rw [updateHigh_eq]; rfl
theorem sag_updateWarm : sag (updateWarm s) = sag s := by rw [updateWarm_eq]; rfl
theorem sag_updateHot : sag (updateHot s) = sag s := by rw [updateHot_eq]; rfl

theorem sag_applyOverload : sag (applyOverload w m s) = sag s := by
  unfold applyOverload
  dsimp only
  split
  · rfl
  · rw [sag_lmCause, sag_lmCondition, sag_setLm]

theorem sag_applyTensionHigh : sag (applyTensionHigh w m s) = sag s := by
  unfold applyTensionHigh
  dsimp only
  split
  · rfl
  · rw [sag_updateHigh, sag_lmCondition, sag_setLm]

theorem sag_applySlack : sag (applySlack w m s) = sag s := by
  unfold applySlack
  dsimp only
  split
  · split <;> rfl
  · split <;> rfl
  · split
    · rw [sag_lmCause, sag_lmCondition, sag_setLm]
    · rfl

theorem sag_applyMotorWarm : sag (applyMotorWarm w m s) = sag s := by
  unfold applyMotorWarm
  dsimp only
  split
  · rfl
  · rw [sag_updateWarm, sag_lmCondition, sag_setLm]

theorem sag_applyMotorHot : sag (applyMotorHot w m s) = sag s := by
  unfold applyMotorHot
  dsimp only
  split
  · rfl
  · rw [sag_updateHot, sag_lmCondition, sag_setLm]

theorem sag_applyTension : sag (applyTension w s) = sag s := by
  unfold applyTension
  split
  · rw [sag_applySlack, sag_applyTensionHigh, sag_applyOverload]
  · rfl

theorem sag_applyTemperature : sag (applyTemperature w s) = sag s := by
  unfold applyTemperature
  split
  · rw [sag_applyMotorHot, sag_applyMotorWarm]
  · rfl

theorem sag_applyFollowCheck : sag (applyFollowCheck w s) = sag s := by
  rw [applyFollowCheck_eq]
  rfl

theorem sag_followingWritten : sag (followingWritten s) = sag s := by
  unfold followingWritten
  generalize handles 4 = ws
  induction ws generalizing s with
  | nil => rfl
  | cons w ws ih => exact (ih _).trans (sag_applyFollowCheck w s)

theorem a_takeSet (x : Measurement) (a : Int × Command) : (takeSet w x a s).lm.a = s.lm.a := by
  refine congrArg Prod.snd (?_ : sag _ = sag s)
  rw [sag_applyFollowCheck, sag_applyTemperature, sag_applyTension, sag_setLm]

theorem a_winchWritten : (winchWritten w s).lm.a = s.lm.a := by
  refine congrArg Prod.snd (?_ : sag _ = sag s)
  rw [sag_applyTemperature, sag_applyTension, sag_setLm]

end

theorem allowance_invariant :
    LoadInvariant (fun r l => InRange r ∧ (0 ≤ l.aStar ∧ l.aStar ≤ 2000000) ∧ 0 ≤ l.a ∧ l.a ≤ 2000000) where
  measures s w m a h := by
    obtain ⟨hr, -, ha⟩ := h
    refine ⟨hr, allowanceTarget_range _ _, ?_⟩
    rw [a_takeSet]
    exact ha
  rewrites s w h := by
    obtain ⟨hr, -, ha⟩ := h
    refine ⟨hr, allowanceTarget_range _ _, ?_⟩
    rw [a_winchWritten]
    exact ha
  follows s h := by
    obtain ⟨hr, haStar, ha⟩ := h
    have same := sag_followingWritten s
    have target : (followingWritten s).lm.aStar = s.lm.aStar := congrArg Prod.fst same
    have allowance : (followingWritten s).lm.a = s.lm.a := congrArg Prod.snd same
    rw [target, allowance]
    exact ⟨hr, haStar, ha⟩
  retargets _ _ h := ⟨h.1, allowanceTarget_range _ _, h.2.2⟩
  rounds _ _ h := by
    obtain ⟨hr, haStar, ha⟩ := h
    exact ⟨hr, haStar, allowanceAfter_range hr.sag ha haStar⟩
  slackens _ _ _ h := h
  strays _ _ _ h := h
  records _ _ _ hr h := ⟨hr h.1, h.2⟩
  starts _ hr := ⟨hr, by decide⟩

theorem recordAndAllowance_iff (s : State) : RecordInRange s ∧ AllowanceInRange s ↔
    OnLoads (fun r l => InRange r ∧ (0 ≤ l.aStar ∧ l.aStar ≤ 2000000) ∧ 0 ≤ l.a ∧ l.a ≤ 2000000) s := by
  rw [recordInRange_iff]
  exact and_congr Iff.rfl ⟨fun ⟨h1, h2, h3⟩ => ⟨⟨h1, h2⟩, h3⟩, fun ⟨⟨h1, h2⟩, h3⟩ => ⟨h1, h2, h3⟩⟩

/-- Settles O59: the flags, the conditions and the record with the allowance are each kept by all that SU, LM and CS do. -/
theorem supervisionStaysSound : Obligations.SupervisionStaysSound := by
  unfold Obligations.SupervisionStaysSound
  refine ⟨Kept.of_exec (fun _ _ h => h) (fun _ _ h => h) fun c s u h e => ?_, covers_invariant.kept, steady_invariant.kept,
    Kept.of_exec (fun _ _ h => h) (fun _ _ h => h) fun c s u h e => ?_,
    Kept.of_exec (fun _ _ h => h) (fun _ _ h => h) fun c s u h e => geometrySound_exec h e⟩
  · exact (loadFlagsFollow_iff u).mpr (OnLoads.exec flags_invariant ((loadFlagsFollow_iff s).mp h) e)
  · exact (recordAndAllowance_iff u).mpr (OnLoads.exec allowance_invariant ((recordAndAllowance_iff s).mp h) e)

end Sys2Proof.Machine
end

section
/-! PROOF. When a command changes nothing, and what a start leaves: the settling of O4, O5, O6, O7 and O60. -/

namespace Sys2Proof.Machine

set_option Elab.async false

/-! ## A part that is held -/

theorem running_eq_false {q : Part} (h : q.resetLine = true ∨ q.supply = false) : q.running = false := by
  obtain h | h := h <;> simp [Part.running, h]

theorem running_eq_true {q : Part} (h : q.supply = true) (h' : q.resetLine = false) : q.running = true := by simp [Part.running, h, h']

section
variable {s : State} (h : s.part.running = false)
include h

theorem event_of_held {c : Instr} (hc : isRequest c = false)
    (hn : c ∉ [Instr.powerOn, .powerLoss, .resetAsserted, .resetReleased, .estopAsserted, .estopReleased]) : exec c s = .next s := by
  have held (f : State → State) : whileRunning f s = .next s := whileRunning_of_held f h
  cases c
  all_goals simp only [exec]
  case requestArrival | badFrame | transmitRoomFreed | stateFrame | stateByteGap => exact held _
  case noticeHanded =>
    unfold execNoticeHanded
    split
    · rfl
    · exact held _
  case restartResponseSent => simp [execRestartResponseSent, restartSent, h]
  case gapTimerExpiry | servoStep | carry | dwellTimerExpiry | deadmanExpiry | launchTimerExpiry | settleTimerExpiry
      | slackTimerExpiry | followTimerExpiry => exact onExpiry_of_held _ _ h
  case periodBoundary =>
    unfold execPeriodBoundary
    split
    · exact onExpiry_of_held _ _ h
    · rfl
  case saveEnd =>
    unfold execSaveEnd
    split
    · rfl
    · exact onExpiry_of_held _ _ h
  case windowEnd =>
    unfold execWindowEnd
    split
    · exact held _
    · rfl
  case queryTimeout =>
    unfold execQueryTimeout
    split
    · exact held _
    · rfl
  case positionReport =>
    unfold execPositionReport
    split
    · rfl
    · exact held _
  case changeReportCt =>
    unfold execChangeReportCt
    split
    · rfl
    · exact held _
  case allowanceReport =>
    unfold execAllowanceReport
    split
    · rfl
    · exact held _
  case changeReportFc | zoneSummary | stopCauseRaise | stopCauseClear | driveStatus | linkState | hotFlag | highFlag | warmFlag =>
    exact takeFc_of_held _ _ h
  case conditionRaiseAtSu | conditionClearAtSu | airborneIndication => exact takeSu_of_held _ _ h
  all_goals first
    | (cases hc; done)
    | (exact absurd hn (by simp); done)

/-- A part that is held takes no event but the levels of its supply and its lines. -/
theorem exec_of_held {c : Instr}
    (hn : c ∉ [Instr.powerOn, .powerLoss, .resetAsserted, .resetReleased, .estopAsserted, .estopReleased]) : exec c s = .next s := by
  cases hc : isRequest c with
  | false => exact event_of_held h hc hn
  | true =>
    obtain ⟨r, p, rfl⟩ := command_of_isRequest hc
    exact exec_command_notAsked r (handedRequest_of_held p h)

end

/-- Settles O4: each event is taken while the part runs alone. -/
theorem heldPartTakesNoEvent : Obligations.HeldPartTakesNoEvent := by
  unfold Obligations.HeldPartTakesNoEvent
  intro s
  refine ⟨fun c h hn => exec_of_held (running_eq_false h) hn, rfl, rfl, fun h => ?_, fun h => ?_, fun h => ?_⟩
  · simp [exec, execPowerOn, h]
  · simp [exec, execResetReleased, h]
  · have held := running_eq_false h
    constructor
    · simp [exec, execEstopAsserted, held, setEstopLine]
    · simp [exec, execEstopReleased, held, setEstopLine]

/-! ## Starts -/

theorem restartSent_iff (s : State) : restartSent s = true ↔
    s.part.supply = true ∧ s.part.resetLine = false ∧ s.part.restartAccepted = true ∧ s.cif.safety.inProgress = none ∧
    ∀ f ∈ s.cif.safety.tx, ¬ (f.notice = false ∧ f.kind = 0xE3#8 ∧ f.body.head? = some 0#8) := by
  simp [restartSent, Part.running, TxFrame.restartOk, and_assoc]

theorem slotAtStart_eq (zones : List StoredZone) (h : ZoneHandle) : (loadedSlots zones)[h] = slotAtStart zones h := by
  refine (Vector.getElem_ofFn _).trans ?_
  dsimp only
  cases hz : zones[h.val]? with
  | none => simp only [slotAtStart, hz]
  | some z => simp only [slotAtStart, hz, loadedZone]

theorem reset_conds (b b' : Bool) (n : Fin 43) : (Su.reset b b').conds[n] =
    if n = condConfigDefault then ⟨b, b⟩ else if n = condEstop then ⟨b', b'⟩ else ⟨false, false⟩ := by
  revert b b' n
  decide

theorem reset_driven (b b' : Bool) : (Su.reset b b').driven = (Su.reset b b').wanted := by
  revert b b'
  decide

/-- What a start with a record and its zones leaves. -/
theorem startWith_afterStart (r : Record) (zones : List StoredZone) (b : Bool) (s : State) :
    AfterStart r zones b s (startWith r zones b s) where
  part := rfl
  ports p := by cases p <;> rfl
  rate := rfl
  zoneSlots h := slotAtStart_eq zones h
  zoneQueue := ⟨rfl, rfl, rfl, rfl⟩
  zoneClock := ⟨rfl, rfl, rfl, rfl⟩
  cueSlots h := Vector.getElem_replicate _
  shotQueue := ⟨rfl, rfl, rfl, rfl, rfl⟩
  flight := ⟨rfl, rfl, rfl, rfl, rfl, rfl⟩
  flightTimers := ⟨rfl, rfl, rfl, rfl⟩
  flightRecords := ⟨rfl, rfl, rfl, rfl, rfl, rfl, rfl⟩
  flightCopies := ⟨rfl, rfl, rfl, fun _ => ⟨Vector.getElem_replicate _, Vector.getElem_replicate _, Vector.getElem_replicate _⟩⟩
  causes := rfl
  links w := by
    have link : (startWith r zones b s).wlc[w] = .reset := Vector.getElem_replicate _
    rw [link]
    exact ⟨rfl, rfl, rfl, rfl, rfl, rfl, rfl, rfl, rfl, rfl, rfl, rfl, rfl, rfl, rfl, rfl, rfl⟩
  loads w := Vector.getElem_replicate _
  allowance := ⟨rfl, rfl, rfl, rfl, rfl⟩
  conditions n := reset_conds b s.part.estopLine n
  warning := ⟨rfl, reset_driven b s.part.estopLine, rfl⟩
  store := rfl
  messages := rfl
  pending := rfl

theorem start_of_passes {s : State} {i : Image} (hf : s.cs.flash = .holds i) (hi : imagePasses i = true) :
    start s = startWith i.record i.zones false s := by simp [start, loadedImage, hf, hi]

theorem start_of_fails {s : State} (hf : ∀ i, s.cs.flash = .holds i → imagePasses i = false) : start s = startWith .default [] true s := by
  cases h : s.cs.flash with
  | erased => simp [start, loadedImage, h]
  | incomplete => simp [start, loadedImage, h]
  | holds i => simp [start, loadedImage, h, hf i h]

theorem start_reset : start State.reset = State.reset := rfl

/-- Settles O5: each of the three causes is a start, and a start loads the image or the defaults. -/
theorem startLoadsTheStoredImageOrTheDefaults : Obligations.StartLoadsTheStoredImageOrTheDefaults := by
  unfold Obligations.StartLoadsTheStoredImageOrTheDefaults
  refine ⟨fun c s hc => ⟨start s, ?_, fun i hf hi => ?_, fun hf => ?_⟩, congrArg Host.Outcome.next start_reset⟩
  · obtain ⟨rfl, hline⟩ | ⟨rfl, hline, hsupply⟩ | ⟨rfl, hsent⟩ := hc
    · simp [exec, execPowerOn, hline]
    · simp [exec, execResetReleased, hline, hsupply]
    · simp [exec, execRestartResponseSent, (restartSent_iff s).mpr hsent]
  · rw [start_of_passes hf hi]
    exact startWith_afterStart _ _ _ s
  · rw [start_of_fails hf]
    exact startWith_afterStart _ _ _ s

/-- Settles O60: the state after reset is what a start leaves, and each property that the steps keep holds after a start. -/
theorem resetStateIsSound : Obligations.ResetStateIsSound := by
  unfold Obligations.ResetStateIsSound
  have flight {P : Mode → Records → Shots → Prop} (hP : FlightInvariant P) : OnFlight P State.reset := start_reset ▸ OnFlight.start hP State.reset
  have table {I : GeometryCfg → Zt → Prop} (hI : TableInvariant I) : OnTable I State.reset := start_reset ▸ OnTable.start hI State.reset
  have links {P : Link → Prop} (hP : LinkInvariant P) : OnLinks P State.reset := start_reset ▸ OnLinks.start hP State.reset
  have loads {I : Record → Lm → Prop} (hI : LoadInvariant I) : OnLoads I State.reset := start_reset ▸ OnLoads.start hI State.reset
  have su {I : Su → Prop} (hI : SuInvariant I) : OnSu I State.reset := start_reset ▸ OnSu.start hI State.reset
  have ports {P : PortState → Prop} (hP : PortInvariant P) : OnPorts P State.reset := start_reset ▸ OnPorts.start hP State.reset
  have cues : CuesInside State.reset := start_reset ▸ CuesInside.start State.reset
  obtain ⟨stopped, causes⟩ := (causesFit_iff State.reset).mpr (flight causes_invariant)
  obtain ⟨record, allowance⟩ := (recordAndAllowance_iff State.reset).mpr (loads allowance_invariant)
  exact ⟨(zoneTableSound_iff _).mpr (table sound_invariant), (subjectIsTheBlockedHead_iff _).mpr (table subject_invariant),
    table fixedCount_invariant, table (zone_invariant fieldsFit_property), (shotQueueSound_iff _).mpr (flight queue_invariant), stopped,
    causes, (modeRecordsSound_iff _).mpr (flight records_invariant), flight still_invariant, links inBounds_invariant,
    links awaitsLast_invariant, (loadFlagsFollow_iff _).mpr (loads flags_invariant), allowance, su covers_invariant, su steady_invariant,
    record, (geometrySound_iff _).mpr ⟨table consistent_invariant, table (zone_invariant inVolume_property), cues⟩,
    ports bounded_invariant, ports receiver_invariant⟩

/-! ## RESTART -/

theorem saving_iff (c : Cs) : c.saving = true ↔ c.save ≠ .idle := by
  unfold Cs.saving
  cases c.save <;> simp

theorem takeNext_restarting (p : Port) (q : PortState) : q.takeNext p true = q := by
  simp [PortState.takeNext]

theorem handedRequest_of_restart {s : State} (p : Port) (h : s.part.restartAccepted = true) : handedRequest p s = none := by
  simp [handedRequest, h]

/-- Settles O6, by the branches of RESTART and the hold of its acceptance on the owners. -/
theorem restartIsCheckedAndHoldsRequests : Obligations.RestartIsCheckedAndHoldsRequests := by
  unfold Obligations.RestartIsCheckedAndHoldsRequests
  refine ⟨fun p s h => ?_, fun r p s h => exec_command_notAsked r (handedRequest_of_restart p h), takeNext_restarting⟩
  have served := asked_restart h
  refine ⟨fun hs => ?_, fun hs h1 h2 => ?_, fun hs hm => ?_⟩
  · rwa [restartRequest, if_pos ((saving_iff _).mpr hs)] at served
  · rwa [restartRequest, if_neg fun k => (saving_iff _).mp k hs, if_pos ⟨h1, h2⟩] at served
  · rwa [restartRequest, if_neg fun k => (saving_iff _).mp k hs, if_neg fun k => hm.elim k.1 k.2] at served

/-! ## Commands whose event has not come about -/

theorem timedOut_eq_false {l : Link} (h : ∀ q, l.query = some q → l.exchangeOpen = true ∨ q.carried < 40) : l.timedOut = false := by
  unfold Link.timedOut
  split
  · next q hq =>
    obtain ho | hc := h q hq
    · simp [ho]
    · simp [Nat.not_le.mpr hc]
  · rfl

theorem timer_of_not_timing {t : TimedComparator} (h : ∀ d, t ≠ .timing d) : t.timer = none := by
  cases t with
  | timing d => exact absurd rfl (h d)
  | clear => rfl
  | live => rfl

theorem onExpiry_none {timer : Option PartTime} (effect : State → State) (s : State) (h : timer = none) : onExpiry timer effect s = .next s := by
  rw [h]
  rfl

theorem boundary_eq_none {u : Su} (h : u.driven = .off ∨ u.driven = .steady) : u.boundary = none := by
  obtain h | h := h <;> simp [Su.boundary, h, Pattern.period]

/-- Settles O7, command by command: the condition under which its event comes about fails. -/
theorem commandsNotEnabledChangeNothing : Obligations.CommandsNotEnabledChangeNothing := by
  unfold Obligations.CommandsNotEnabledChangeNothing
  refine ⟨fun r p s h => exec_command_notAsked r h, fun r r' p s h hne => exec_command_other h hne,
    fun p s h => onExpiry_none _ s h, fun s h => ?_, fun s h => ?_, fun s h => ?_, fun s h => ?_, fun w s h => ?_, fun w s h => ?_,
    fun s h => ?_, fun s h => ?_, fun w s h => ?_, fun w s h => ?_, fun s h => ?_, fun s h => ?_, fun s h => ?_, fun s h => ?_,
    fun s h => ?_, fun s h => ?_, fun b s h => ?_, fun b s h => ?_, fun b s h => ?_, fun b s h => ?_, fun s h => ?_, fun s h => ?_,
    fun s h => ?_, fun s h => ?_, fun s h => ?_, fun s h => ?_, fun s h => ?_⟩
  · simp only [exec, execDwellTimerExpiry, onExpiry, h]
  · simp only [exec, execDeadmanExpiry, onExpiry, h]
  · simp only [exec, execLaunchTimerExpiry, onExpiry, h]
  · simp only [exec, execSettleTimerExpiry, onExpiry, h]
  · simp only [exec, execSlackTimerExpiry, onExpiry, timer_of_not_timing h]
  · simp only [exec, execFollowTimerExpiry, onExpiry, timer_of_not_timing h]
  · simp only [exec, execPeriodBoundary, boundary_eq_none h]
  · simp only [exec, execSaveEnd, h]
  · exact if_neg (Nat.not_le.mpr h)
  · simp only [exec, execQueryTimeout, timedOut_eq_false h, Bool.false_eq_true, if_false]
  · simp only [exec, execPositionReport, h]
  · simp only [exec, execChangeReportCt, h]
  · simp only [exec, execAllowanceReport, h]
  · simp only [exec, execNoticeHanded, h]
  · exact takeFc_of_other fun m hm => by cases m <;> first | rfl | exact absurd hm (h _)
  · exact takeFc_of_other fun m hm => by cases m <;> first | rfl | exact absurd hm (h _ _)
  · exact takeFc_of_other fun m hm => by cases m <;> first | rfl | exact absurd hm (h _)
  · exact takeFc_of_other fun m hm => by cases m <;> first | rfl | exact absurd hm (h _)
  · exact takeSu_of_other fun m hm => by cases m <;> first | rfl | exact absurd hm (h _)
  · exact takeSu_of_other fun m hm => by cases m <;> first | rfl | exact absurd hm (h _)
  · exact takeSu_of_other fun m hm => by cases m <;> first | rfl | exact absurd hm (h _)
  · exact takeFc_of_other fun m hm => by cases m <;> first | rfl | exact absurd hm (h _ _)
  · exact takeFc_of_other fun m hm => by cases m <;> first | rfl | exact absurd hm (h _ _)
  · exact takeFc_of_other fun m hm => by cases m <;> first | rfl | exact absurd hm (h _)
  · exact takeFc_of_other fun m hm => by cases m <;> first | rfl | exact absurd hm (h _)
  · exact takeFc_of_other fun m hm => by cases m <;> first | rfl | exact absurd hm (h _)
  ·
    have waits : restartSent s = false := by
      refine eq_false_of_ne_true fun k => ?_
      obtain ⟨-, -, haccepted, hprogress, htx⟩ := (restartSent_iff s).mp k
      obtain h | h | ⟨f, hf, hok⟩ := h
      · rw [haccepted] at h; cases h
      · exact h hprogress
      · exact htx f hf hok
    simp only [exec, execRestartResponseSent, waits, Bool.false_eq_true, if_false]

end Sys2Proof.Machine
end

section
/-! PROOF. What a port does with frames that arrive, with answers and with bytes that leave: the settling of O8 to O12. -/

namespace Sys2Proof.Machine

set_option Elab.async false

/-! ## CIF's checks -/

/-- The request kinds, by their numbers (R192). -/
def requestKinds : List Nat :=
  [0x10, 0x11, 0x12, 0x13, 0x14, 0x15, 0x16, 0x17, 0x18, 0x19, 0x20, 0x21, 0x22, 0x28, 0x29, 0x2A, 0x2B, 0x30, 0x31, 0x32, 0x33, 0x34, 0x40,
    0x41, 0x42, 0x43, 0x44, 0x45, 0x46, 0x50, 0x51, 0x52, 0x58, 0x59, 0x60, 0x61, 0x62, 0x63]

/-- The kinds that a port is not granted by name (R195). -/
def deniedKinds : Port → List Nat
  | .pilot => [0x20, 0x21, 0x44, 0x45, 0x51, 0x61, 0x62, 0x63]
  | .director => [0x40, 0x41, 0x44, 0x45, 0x61, 0x62, 0x63]
  | .safety => [0x41, 0x42]

/-- What the table of fixed grants says of a port: the kind is unknown, or the port is granted it or not. -/
def granting (p : Port) (kind : Byte) : Option Bool := (fixedGrant kind).map fun granted => decide (p ∈ granted)

theorem granting_eq (p : Port) (kind : Byte) :
    granting p kind = if kind.toNat ∈ requestKinds then some (decide (kind.toNat ∉ deniedKinds p)) else none := by
  unfold granting fixedGrant
  split
  case h_39 => simp_all [requestKinds]
  all_goals
    next h =>
      rw [h]
      cases p <;> decide

theorem checkRequest_eq (p : Port) (r : QueuedRequest) : checkRequest p r =
    match granting p r.kind with
    | none => .inr .unknown
    | some false => .inr .denied
    | some true => (parseRequest r.kind r.body).elim (.inr .badField) .inl := by
  unfold checkRequest granting
  cases fixedGrant r.kind with
  | none => rfl
  | some granted =>
    by_cases hp : p ∈ granted
    · simp only [hp, Option.map_some, decide_true, not_true_eq_false, if_false]
      cases parseRequest r.kind r.body <;> rfl
    · simp [hp]

/-- Settles O9: the checks follow the table of grants, then the reading of the body. -/
theorem consoleChecksKindGrantAndLength : Obligations.ConsoleChecksKindGrantAndLength := by
  unfold Obligations.ConsoleChecksKindGrantAndLength
  intro p r known deniedTo
  have grants : granting p r.kind = if r.kind.toNat ∈ known then some (decide (r.kind.toNat ∉ deniedTo)) else none := by
    rw [granting_eq]
    cases p <;> rfl
  have check := checkRequest_eq p r
  rw [grants] at check
  refine ⟨fun hk => ?_, fun hk hd => ?_, fun hk hd hb => ?_, fun request hk hd hb => ?_⟩
  · rwa [if_neg hk] at check
  · rwa [if_pos hk, decide_eq_false fun h => h hd] at check
  · rwa [if_pos hk, decide_eq_true hd, hb] at check
  · rwa [if_pos hk, decide_eq_true hd, hb] at check

/-! ## Answers -/

theorem carried_of_short {content : List Byte} (h : content.length ≤ 238) : carried content = content := if_pos h

theorem Response.size_of_short {r : Response} (h : r.content.length ≤ 238) : r.size = 8 + r.content.length := by
  simp only [Response.size, Response.frame, TxFrame.size, carried_of_short h, List.length_append, length_flag, u8, List.length_singleton]
  omega

theorem Response.frame_of_short {kind tag : Byte} {result : Result} {content : List Byte} (b : Bool) (h : content.length ≤ 238) :
    Response.frame { kind := kind + 0x80#8, tag := tag, result := result, content := content } b = responseFrame kind tag result b content := by
  simp only [Response.frame, responseFrame, carried_of_short h]

theorem Response.frame_of_empty (kind tag : Byte) (result : Result) (b : Bool) :
    Response.frame { kind := kind + 0x80#8, tag := tag, result := result, content := [] } b = responseFrame kind tag result b [] :=
  Response.frame_of_short b (by simp)

/-- Nothing gives way in a buffer without a notice. -/
theorem makeRoom_of_responses {q : PortState} (h : ∀ f ∈ q.tx, f.notice = false) (n fuel : Nat) : q.makeRoom n fuel = q := by
  have trimmed := makeRoom_trimmed n fuel q
  refine trimmed.same (trimmed.sublist.eq_of_length_le ?_)
  have whole : q.tx.filter (fun f => !f.notice) = q.tx := List.filter_eq_self.mpr fun f hf => by simp [h f hf]
  have kept := trimmed.responses.symm ▸ List.length_filter_le (fun f : TxFrame => !f.notice) (q.makeRoom n fuel).tx
  rwa [whole] at kept

/-- A buffer without a notice stays as it is where the response does not fit. -/
theorem place_of_full {r : Response} {q : PortState} (hn : ∀ f ∈ q.tx, f.notice = false) (h : 512 < q.used + r.size) :
    q.place r = (q, false) := by
  have full : q.fits r.size = false := decide_eq_false (Nat.not_le.mpr h)
  simp [PortState.place, makeRoom_of_responses hn, full]

/-- A response that waits and fits is placed, and its request ends (R194, R198). -/
theorem retry_of_fits (p : Port) (restarting : Bool) {q : PortState} {kind tag : Byte} {r : Response}
    (hi : q.inProgress = some ⟨kind, tag, .waiting r⟩) (h : q.fits r.size = true) : q.retry p restarting =
      PortState.takeNext p restarting { q with tx := q.tx ++ [r.frame q.overrun], overrun := false, inProgress := none } := by
  simp [PortState.retry, hi, place_of_fits h]

theorem retry_of_full (p : Port) (restarting : Bool) {q : PortState} {kind tag : Byte} {r : Response}
    (hi : q.inProgress = some ⟨kind, tag, .waiting r⟩) (hn : ∀ f ∈ q.tx, f.notice = false) (h : 512 < q.used + r.size) :
    q.retry p restarting = q := by
  simp [PortState.retry, hi, place_of_full hn h]

/-- With no request in progress and none waiting, none is taken. -/
theorem takeNext_of_empty (p : Port) (restarting : Bool) {q : PortState} (h : q.queue = []) : q.takeNext p restarting = q := by
  unfold PortState.takeNext
  split
  · rfl
  · obtain ⟨rx, gapTimer, queue, inProgress, tx, txSent, overrun, badFrames⟩ := q
    cases h
    rfl

/-- The head of the queue is handed to its owner. -/
theorem takeNext_of_head (p : Port) {q : PortState} {r : QueuedRequest} {rest : List QueuedRequest} {request : Request}
    (hi : q.inProgress = none) (hq : q.queue = r :: rest) (hr : checkRequest p r = .inl request) :
    q.takeNext p false = { q with queue := rest, inProgress := some ⟨r.kind, r.tag, .handed request⟩ } := by
  simp [PortState.takeNext, PortState.takeFrom, hi, hq, hr]

/-- Settles O8: the response is placed on the port that asked, or waits there. -/
theorem answersArePlacedOnTheAskingPort : Obligations.AnswersArePlacedOnTheAskingPort := by
  unfold Obligations.AnswersArePlacedOnTheAskingPort
  refine ⟨fun p p' result content s => ⟨rfl, Cif.setPort_rate _ _ _, fun hp => Cif.port_setPort_other _ _ hp⟩,
    fun p result content s kind tag stage hi hc hfit => ?_, fun p result content s kind tag stage hi hc hfull hn => ?_⟩
  all_goals
    generalize hr : ({ kind := kind + 0x80#8, tag := tag, result := result, content := content } : Response) = r
    have size : r.size = 8 + content.length := by subst hr; exact Response.size_of_short hc
    have answered : (respond p result content s).cif.port p =
        PortState.retry p s.part.restartAccepted { s.cif.port p with inProgress := some ⟨kind, tag, .waiting r⟩ } := by
      subst hr
      rw [respond_eq, Cif.port_setPort_same, PortState.respond, hi]
  · have fits : PortState.fits { s.cif.port p with inProgress := some ⟨kind, tag, .waiting r⟩ } r.size = true :=
      (fits_iff _ _).mpr (size ▸ hfit)
    rw [retry_of_fits p _ rfl fits] at answered
    have frame : r.frame (s.cif.port p).overrun = responseFrame kind tag result (s.cif.port p).overrun content := by
      subst hr
      exact Response.frame_of_short _ hc
    dsimp only at answered ⊢
    rw [frame] at answered
    rw [answered]
    refine ⟨fun hq => takeNext_of_empty p _ hq, fun ha => ?_, fun r' rest request ha hq hcheck => ?_⟩
    · rw [ha]
      exact takeNext_restarting p _
    · rw [ha]
      exact takeNext_of_head p rfl hq hcheck
  · rw [answered]
    exact retry_of_full p _ rfl hn (size ▸ hfull)

/-! ## Frames that arrive -/

section
variable (p : Port) (restarting : Bool) (due : PartTime)

/-- The receiver on the bytes of a body, up to the last. -/
theorem takeBody (n kind tag : Byte) (bytes : List Byte) : ∀ (taken : List Byte) (q : PortState), q.rx = .body n kind tag taken →
    bytes ≠ [] → taken.length + bytes.length = n.toNat →
    (bytes.map LineByte.byte).foldl (PortState.takeLine p restarting due) q =
      { q with rx := .check n kind tag (taken ++ bytes) none, gapTimer := some due } := by
  induction bytes with
  | nil => exact fun _ _ _ h => absurd rfl h
  | cons b rest ih =>
    intro taken q hq _ hlen
    simp only [List.map_cons, List.foldl_cons, List.length_cons] at hlen ⊢
    cases rest with
    | nil =>
      have last : ¬ taken.length + 1 < n.toNat := by simp at hlen; omega
      simp [PortState.takeLine, PortState.takeByte, hq, PortState.goOn, last]
    | cons b' rest =>
      have more : taken.length + 1 < n.toNat := by simp at hlen; omega
      have first : PortState.takeLine p restarting due q (.byte b) =
          { q with rx := .body n kind tag (taken ++ [b]), gapTimer := some due } := by
        simp [PortState.takeLine, PortState.takeByte, hq, PortState.goOn, more]
      rw [first, ih (taken ++ [b]) _ rfl (by simp) (by simp at hlen ⊢; omega)]
      simp

/-- The receiver on a frame up to its body. -/
theorem takeHeader {q : PortState} (hq : q.rx = .hunt) (kind tag : Byte) {body : List Byte} (hb : body.length ≤ 240) :
    (([0xA5#8, BitVec.ofNat 8 body.length, kind, tag] ++ body).map LineByte.byte).foldl (PortState.takeLine p restarting due) q =
      { q with rx := .check (BitVec.ofNat 8 body.length) kind tag body none, gapTimer := some due } := by
  have length : (BitVec.ofNat 8 body.length).toNat = body.length := by
    rw [BitVec.toNat_ofNat]
    exact Nat.mod_eq_of_lt (by omega)
  have first : ([0xA5#8, BitVec.ofNat 8 body.length, kind, tag].map LineByte.byte).foldl (PortState.takeLine p restarting due) q =
      { q with
        rx := if BitVec.ofNat 8 body.length = 0 then .check (BitVec.ofNat 8 body.length) kind tag [] none
          else .body (BitVec.ofNat 8 body.length) kind tag [],
        gapTimer := some due } := by
    simp only [List.map_cons, List.map_nil, List.foldl_cons, List.foldl_nil, PortState.takeLine, PortState.takeByte, hq, if_true,
      PortState.goOn, length, hb]
  rw [List.map_append, List.foldl_append, first]
  cases body with
  | nil => rfl
  | cons b bytes =>
    have nonzero : BitVec.ofNat 8 (b :: bytes).length ≠ 0 := fun h => by
      rw [h] at length
      cases length
    rw [if_neg nonzero]
    exact takeBody p restarting due _ kind tag (b :: bytes) [] _ rfl (by simp) (by rw [length]; simp)

theorem u16_toNat (crc : BitVec 16) : (BitVec.ofNat 8 (crc.toNat / 256)).toNat * 256 + (BitVec.ofNat 8 crc.toNat).toNat = crc.toNat := by
  have := crc.isLt
  simp only [BitVec.toNat_ofNat]
  omega

/-- The receiver on a whole frame: the request arrives where the CRC matches, and the frame is discarded elsewhere (R193). -/
theorem takeFrame {q : PortState} (hq : q.rx = .hunt) (kind tag : Byte) {body : List Byte} (crc : BitVec 16) (hb : body.length ≤ 240) :
    (requestFrame kind tag body crc).foldl (PortState.takeLine p restarting due) q =
      if crc = requestCrc kind tag body then
        PortState.arrive p restarting { kind := kind, tag := tag, body := body } { q with rx := .hunt, gapTimer := none }
      else q.discard := by
  have ends : consoleCrcMatches (BitVec.ofNat 8 body.length) kind tag body (BitVec.ofNat 8 (crc.toNat / 256)) (BitVec.ofNat 8 crc.toNat) =
      decide (crc = requestCrc kind tag body) := by
    unfold consoleCrcMatches requestCrc
    rw [u16_toNat, decide_eq_decide, BitVec.toNat_inj]
    exact eq_comm
  unfold requestFrame
  rw [List.map_append, List.foldl_append, takeHeader p restarting due hq kind tag hb]
  simp only [u16, List.map_cons, List.map_nil, List.foldl_cons, List.foldl_nil, PortState.takeLine, PortState.takeByte, PortState.goOn,
    ends, decide_eq_true_eq]
  rfl

end

theorem receive_eq (p : Port) (bytes : List LineByte) (s : State) : receive p bytes s =
    withPort p (fun q => bytes.foldl (PortState.takeLine p s.part.restartAccepted (afterMs s 10)) q) s := rfl

/-- BUSY is placed where it fits (R194). -/
theorem placeBusy_of_fits {q : PortState} (kind tag : Byte) (h : q.used + 8 ≤ 512) : q.placeBusy kind tag =
    { q with tx := q.tx ++ [responseFrame kind tag .busy q.overrun []], overrun := false } := by
  have fits : q.fits (Response.size { kind := kind + 0x80#8, tag := tag, result := .busy, content := [] }) = true :=
    (fits_iff _ _).mpr (by rw [Response.size_of_short (Nat.zero_le _)]; exact h)
  simp only [PortState.placeBusy, place_of_fits fits, if_true, Response.frame_of_empty]

/-- A request that CIF refuses on an idle port is answered at once where the answer fits. -/
theorem takeNext_of_refusal (p : Port) {q : PortState} {r : QueuedRequest} {refusal : Result} (hi : q.inProgress = none)
    (hq : q.queue = [r]) (hr : checkRequest p r = .inr refusal) (h : q.used + 8 ≤ 512) : q.takeNext p false =
      { q with queue := [], tx := q.tx ++ [responseFrame r.kind r.tag refusal q.overrun []], overrun := false } := by
  have fits : q.fits (Response.size { kind := r.kind + 0x80#8, tag := r.tag, result := refusal, content := [] }) = true :=
    (fits_iff _ _).mpr (by rw [Response.size_of_short (Nat.zero_le _)]; exact h)
  simp only [PortState.takeNext, PortState.takeFrom, hi, hq, hr, place_of_fits fits, Response.frame_of_empty, if_true,
    Option.isSome_none, Bool.or_self, Bool.false_eq_true, if_false]

/-- Settles O10: the receiver takes the frame, and the request arrives. -/
theorem requestFramesArrive : Obligations.RequestFramesArrive := by
  unfold Obligations.RequestFramesArrive
  intro p kind tag body s hsupply hline hb hq q r
  have arrives : exec (.requestArrival p (requestFrame kind tag body (requestCrc kind tag body))) s =
      .next { s with cif := s.cif.setPort p (q.arrive p s.part.restartAccepted r) } := by
    refine (whileRunning_of_running _ (running_eq_true hsupply hline)).trans ?_
    rw [receive_eq, withPort, takeFrame p _ _ hq kind tag _ hb, if_pos rfl]
  have joins (hroom : q.queue.length < 4) : q.arrive p s.part.restartAccepted r =
      PortState.takeNext p s.part.restartAccepted { q with queue := q.queue ++ [r] } := if_pos hroom
  refine ⟨_, arrives, fun hi hroom => ?_, fun hi he ha request hr => ?_, fun hi he ha refusal hr hfit => ?_, fun ha hroom => ?_,
    fun hfull hfit => ?_⟩
  · rw [joins hroom, PortState.takeNext, if_pos (by simp [hi])]
  · rw [joins (by simp [he]), ha]
    exact (takeNext_of_head p (q := { q with queue := q.queue ++ [r] }) (rest := []) hi (by simp [he]) hr).trans (by rw [he])
  · rw [joins (by simp [he]), ha]
    exact (takeNext_of_refusal p (q := { q with queue := q.queue ++ [r] }) hi (by simp [he]) hr hfit).trans (by rw [he])
  · rw [joins hroom, ha, takeNext_restarting]
  · rw [PortState.arrive, if_neg (Nat.not_lt.mpr hfull)]
    exact placeBusy_of_fits kind tag hfit

/-- Settles O11: in each of the four cases the receiver discards the frame. -/
theorem badFramesAreDiscardedAndCounted : Obligations.BadFramesAreDiscardedAndCounted := by
  unfold Obligations.BadFramesAreDiscardedAndCounted
  intro p s hsupply hline counted
  have running := running_eq_true hsupply hline
  have received (bytes : List LineByte)
      (h : bytes.foldl (PortState.takeLine p s.part.restartAccepted (afterMs s 10)) (s.cif.port p) = (s.cif.port p).discard) :
      exec (.badFrame p bytes) s = .next (counted s) := by
    refine (whileRunning_of_running _ running).trans ?_
    rw [receive_eq, withPort, h]
    rfl
  refine ⟨fun kind tag body crc hq hb hcrc => received _ ?_, fun n hq hn => received _ ?_, fun hq => received _ ?_, fun due hdue => ?_⟩
  · rw [takeFrame p _ _ hq kind tag crc hb, if_neg hcrc]
  · have long : ¬ n.toNat ≤ 240 := Nat.not_le.mpr hn
    simp [PortState.takeLine, PortState.takeByte, hq, PortState.goOn, long, PortState.discard]
  · show PortState.framingError _ = _
    unfold PortState.framingError
    split
    · next h => exact absurd h hq
    · rfl
  · simp only [exec, execGapTimerExpiry, hdue]
    exact onExpiry_of_running _ _ running

/-! ## Bytes that leave, and notices -/

theorem sentFrames_suffix (total : Nat) (l : List TxFrame) : (sentFrames total l).1 <:+ l := by
  induction l generalizing total with
  | nil => exact List.nil_suffix
  | cons f rest ih =>
    unfold sentFrames
    split
    · exact (ih _).trans (List.suffix_cons f rest)
    · exact List.suffix_rfl

/-- Bytes sent are bytes that the buffer no longer holds (R198). -/
theorem sentFrames_sum {total : Nat} {l : List TxFrame} (h : total ≤ (l.map TxFrame.size).sum) :
    ((sentFrames total l).1.map TxFrame.size).sum - (sentFrames total l).2 = (l.map TxFrame.size).sum - total := by
  induction l generalizing total with
  | nil => simp [sentFrames]
  | cons f rest ih =>
    simp only [List.map_cons, List.sum_cons] at h ⊢
    unfold sentFrames
    split
    · rw [ih (by omega)]
      omega
    · simp

/-- The port after bytes are sent, before a response that waits is placed. -/
def PortState.sentBytes (sent : Nat) (q : PortState) : PortState :=
  { q with tx := (sentFrames (q.txSent + sent) q.tx).1, txSent := (sentFrames (q.txSent + sent) q.tx).2 }

theorem send_eq (p : Port) (restarting : Bool) (sent : Nat) (q : PortState) :
    q.send p restarting sent = (q.sentBytes sent).retry p restarting := rfl

theorem sentBytes_used {sent : Nat} {q : PortState} (h : q.txSent + sent ≤ (q.tx.map TxFrame.size).sum) :
    (q.sentBytes sent).used = q.used - sent := by
  have sum := sentFrames_sum h
  unfold PortState.used PortState.sentBytes
  dsimp only
  omega

theorem retry_of_idle (p : Port) (restarting : Bool) {q : PortState} (h : q.responseWaits = false) : q.retry p restarting = q := by
  unfold PortState.retry
  split
  · next hi => simp [PortState.responseWaits, hi] at h
  · rfl

theorem placeNotice_eq (n : Notice) (q : PortState) : q.placeNotice n =
    if q.responseWaits = true ∨ 512 < q.used + TxFrame.size { notice := true, kind := n.encode.1, tag := 0, body := n.encode.2 } then
      { q with overrun := true }
    else { q with tx := q.tx ++ [{ notice := true, kind := n.encode.1, tag := 0, body := n.encode.2 }] } := by
  unfold PortState.placeNotice PortState.fits txSize
  dsimp only
  simp only [Bool.or_eq_true, Bool.not_eq_true', decide_eq_false_iff_not, Nat.not_le]

theorem placeNoticeOnAll_port (n : Notice) (c : Cif) (p : Port) : (placeNoticeOnAll n c).port p = (c.port p).placeNotice n := by
  cases p <;> rfl

/-- Settles O12: bytes that leave, notices that give way, and notices that are placed. -/
theorem transmitBuffersTakeNoticesAndKeepResponses : Obligations.TransmitBuffersTakeNoticesAndKeepResponses := by
  unfold Obligations.TransmitBuffersTakeNoticesAndKeepResponses
  refine ⟨?sent, ?room, ?notice⟩
  case sent =>
    intro p sent s hsupply hline q
    refine ⟨q.send p s.part.restartAccepted sent, whileRunning_of_running _ (running_eq_true hsupply hline), fun hw => ?_,
      fun kind tag r hi hc hq hsent hfit => ?_⟩
    · have idle : q.send p s.part.restartAccepted sent = q.sentBytes sent := retry_of_idle p _ (q := q.sentBytes sent) hw
      rw [idle]
      exact ⟨rfl, sentFrames_suffix _ _, sentBytes_used⟩
    · have fits : (q.sentBytes sent).fits r.size = true := (fits_iff _ _).mpr (by
        rw [sentBytes_used hsent, Response.size_of_short hc]
        exact hfit)
      rw [send_eq, retry_of_fits p s.part.restartAccepted (q := q.sentBytes sent) hi fits, takeNext_of_empty p _ (by exact hq)]
      refine ⟨?_, rfl, rfl⟩
      rw [List.getLast?_concat]
      simp only [Response.frame, carried_of_short hc]
      rfl
  case room =>
    intro n q q'
    have trimmed := makeRoom_trimmed n q.tx.length q
    exact ⟨fun h => makeRoom_of_fits h _, trimmed.sublist, trimmed.responses, trimmed.notices, trimmed.begun, trimmed.flagged, trimmed.same,
      makeRoom_done n _ q (Nat.le_refl _)⟩
  case notice =>
    intro n rest s hsupply hline hn f
    have taken : exec .noticeHanded s = .next { s with chan := { s.chan with notices := rest }, cif := placeNoticeOnAll n s.cif } := by
      simp only [exec, execNoticeHanded, hn]
      exact whileRunning_of_running _ (running_eq_true hsupply hline)
    refine ⟨_, taken, rfl, rfl, fun p => ?_⟩
    rw [placeNoticeOnAll_port, placeNotice_eq]

end Sys2Proof.Machine
end

section
/-! PROOF. What the reads of the two tables report, and what a change report holds: the settling of O20, O22 and O32. -/

namespace Sys2Proof.Machine

set_option Elab.async false

/-! ## Filters and lists -/

/-- A bit outside the states that ZONE LIST names (R40, R192). -/
theorem zoneStates_outside (b : Byte) : b &&& 0xF1#8 ≠ 0 ↔ b &&& 0x0E#8 ≠ b := by
  revert b
  decide

/-- A bit outside the classes. -/
theorem zoneClasses_outside (b : Byte) : b &&& 0xF8#8 ≠ 0 ↔ b &&& 0x07#8 ≠ b := by
  revert b
  decide

/-- A bit outside the states that CUE LIST names (R94, R192). -/
theorem cueStates_outside (b : Byte) : b &&& 0xF9#8 ≠ 0 ↔ b &&& 0x06#8 ≠ b := by
  revert b
  decide

theorem counted_id (l : List (List Byte)) : counted id l = u8 l.length ++ l.flatten := by
  rw [counted, List.flatMap_id]

theorem counted_bytes (l : List Byte) : counted (fun b => [b]) l = u8 l.length ++ l := by
  rw [counted, List.flatMap_singleton']

/-! ## ZONE READ and ZONE LIST -/

theorem NamesZone.zone {s : State} {handle gen : Byte} {h : ZoneHandle} {z : Zone} (hn : NamesZone s handle gen h z) :
    s.zt.zone h = some z := by
  rw [Zt.zone, hn.2]

theorem NamesZone.generation {s : State} {handle gen : Byte} {h : ZoneHandle} {z : Zone} (hn : NamesZone s handle gen h z) :
    s.zt.slots[h].generation = gen := by
  rw [hn.2]

theorem stateByte_of_zone {t : Zt} {h : ZoneHandle} {z : Zone} (hz : t.zone h = some z) :
    t.stateByte h = u8 (slotStateCode (some z.state)) := by
  rw [Zt.stateByte, Zt.stateOf_eq, hz, Option.map_some]

theorem passesFilters_iff {states classes : Byte} {z : Zone} : passesFilters states classes z = true ↔
    (states = 0 ∨ states.toNat.testBit (slotStateCode (some z.state)) = true) ∧
    (classes = 0 ∨ classes.toNat.testBit z.cls.code = true) := by
  simp only [passesFilters, Bool.and_eq_true, Bool.or_eq_true, decide_eq_true_eq]

theorem zoneList_outside {states classes : Byte} (s : State)
    (h : states &&& 0x0E#8 ≠ states ∨ classes &&& 0x07#8 ≠ classes) : zoneList states classes s = refuse .badField s :=
  if_pos (h.imp (zoneStates_outside states).mpr (zoneClasses_outside classes).mpr)

theorem zoneList_inside {states classes : Byte} (s : State) (hs : states &&& 0x0E#8 = states) (hc : classes &&& 0x07#8 = classes) :
    zoneList states classes s = ⟨.ok, counted id (s.zt.listEntries states classes), s⟩ :=
  if_neg (fun h => h.elim (fun k => (zoneStates_outside states).mp k hs) (fun k => (zoneClasses_outside classes).mp k hc))

/-- Settles O20: the record of the named zone is what ZONE READ carries, and ZONE LIST's filters and entries are those of R40. -/
theorem zoneReadsReportTheTable : Obligations.ZoneReadsReportTheTable := by
  unfold Obligations.ZoneReadsReportTheTable
  refine ⟨fun p handle gen h z s ha hn => (asked_zoneRead ha).to ?_, fun p states classes s ha => ⟨fun hout => ?_, ?_⟩⟩
  · rw [onZone_of_names hn, zoneRecordBytes, stateByte_of_zone hn.zone, hn.generation, Zt.place]
  · exact (asked_zoneList ha).refuses (zoneList_outside s hout)
  · intro hs hc listed
    refine (asked_zoneList ha).to ((zoneList_inside s hs hc).trans ?_)
    have entries : s.zt.listEntries states classes = listed := by
      refine congrArg (fun f => List.filterMap f (handles 48)) (funext fun h => ?_)
      cases hz : s.zt.zone h with
      | none => rfl
      | some z => simp only [passesFilters_iff, stateByte_of_zone hz, Option.bind_some]
    rw [counted_id, entries]

/-! ## CUE READ, CUE LIST and QUEUE READ -/

theorem NamesCue.cue {s : State} {handle gen : Byte} {h : CueHandle} {c : Cue} (hn : NamesCue s handle gen h c) :
    s.ct.cue h = some c := by
  rw [Ct.cue, hn.2]

theorem NamesCue.generation {s : State} {handle gen : Byte} {h : CueHandle} {c : Cue} (hn : NamesCue s handle gen h c) :
    s.ct.slots[h].generation = gen := by
  rw [hn.2]

theorem onCue_of_names {s : State} {handle gen : Byte} {h : CueHandle} {c : Cue} (hn : NamesCue s handle gen h c)
    (act : CueHandle → Cue → Answer) : onCue handle gen s act = act h c := by
  rw [onCue_of_handle hn.1, hn.cue, Option.elim_some, if_pos hn.generation]

/-- The state of a cue is READY without a blocker and BLOCKED with one (R86, R90). -/
theorem Cue.state_code (c : Cue) : c.state.code = if c.blockers = 0 then 1 else 2 := by
  unfold Cue.state
  split <;> rfl

theorem names_eq (h : CueHandle) (gen : Generation) :
    (fun e : QueueEntry => e.names h gen) = fun e => decide (e.handle = h ∧ e.generation = gen) := by
  funext e
  rw [QueueEntry.names, Bool.decide_and]

theorem runs_eq (t : Ct) (h : CueHandle) : t.runs h =
    t.queue.any (fun e => decide (e.handle = h ∧ e.generation = t.slots[h].generation) && decide (e.status = .running)) := by
  unfold Ct.runs
  congr 1
  funext e
  rw [Bool.and_comm, QueueEntry.names, Bool.decide_and]

theorem cueList_outside {states : Byte} (s : State) (h : states &&& 0x06#8 ≠ states) : cueList states s = refuse .badField s :=
  if_pos ((cueStates_outside states).mpr h)

theorem cueList_inside {states : Byte} (s : State) (h : states &&& 0x06#8 = states) :
    cueList states s = ⟨.ok, counted id (s.ct.listEntries states), s⟩ :=
  if_neg (fun k => (cueStates_outside states).mp k h)

theorem timerBytes_eq (now : PartTime) (timer : Option PartTime) : timerBytes now timer =
    match timer with
    | none => u8 0
    | some due => u8 1 ++ i32 (remainingMs due now) := by
  cases timer <;> rfl

/-- Settles O32: what each of the three reads carries is what CT holds, and none of them changes it. -/
theorem cueAndQueueReadsChangeNothing : Obligations.CueAndQueueReadsChangeNothing := by
  unfold Obligations.CueAndQueueReadsChangeNothing
  refine ⟨?_, fun p states s ha => ⟨fun hout => ?_, ?_⟩, fun p s ha => (asked_queueRead ha).to ?_⟩
  · intro p handle gen h c s ha hn names
    refine (asked_cueRead ha).to ?_
    rw [onCue_of_names hn, cueRecordBytes, runs_eq, hn.generation, names_eq, Cue.state_code, counted_bytes]
  · exact (asked_cueList ha).refuses (cueList_outside s hout)
  · intro hs listed
    refine (asked_cueList ha).to ((cueList_inside s hs).trans ?_)
    have entries : s.ct.listEntries states = listed := by
      refine congrArg (fun f => List.filterMap f (handles 32)) (funext fun h => ?_)
      cases hc : s.ct.cue h with
      | none => rfl
      | some c => simp only [Bool.or_eq_true, decide_eq_true_eq, Cue.state_code, counted_bytes, Option.bind_some]
    rw [counted_id, entries]
  · rw [queueBytes, timerBytes_eq, counted, List.length_zipIdx]
    cases s.ct.dwell <;> rfl

/-! ## The change report -/

/-- A slot in force as a report carries it (R42). -/
def ForceZone.of (h : ZoneHandle) (gen : Generation) (z : Zone) : ForceZone :=
  { handle := h, generation := gen, state := z.state, box := z.box, guard := z.guard, hyst := z.hyst, cap := z.cap,
    clearance := z.clearance }

theorem mem_forceZones {t : Zt} {f : ForceZone} : f ∈ t.forceZones ↔ ∃ h z, t.zone h = some z ∧ z.state ≠ .suspended ∧
    f = ForceZone.of h t.slots[h].generation z := by
  unfold Zt.forceZones
  rw [List.mem_filterMap]
  constructor
  · rintro ⟨h, -, e⟩
    split at e
    · next z hz =>
      split at e
      · next hf => exact ⟨h, z, hz, (inForce_iff z).mp hf, (Option.some.inj e).symm⟩
      · cases e
    · cases e
  · rintro ⟨h, z, hz, hf, rfl⟩
    refine ⟨h, mem_handles h, ?_⟩
    simp only [hz, (inForce_iff z).mpr hf, if_true]
    rfl

/-- A report carries the zones in force in the order of their handles. -/
theorem forceZones_sorted (t : Zt) : (t.forceZones.map (fun f => f.handle)).Pairwise (· < ·) := by
  unfold Zt.forceZones
  rw [List.pairwise_map, List.pairwise_filterMap]
  refine (List.pairwise_lt_finRange 48).imp fun {a b} hab x hx y hy => ?_
  have handle_eq : ∀ {h : ZoneHandle} {f : ForceZone}, (match t.zone h with
      | some z => if z.inForce then some (ForceZone.of h t.slots[h].generation z) else none
      | none => none) = some f → f.handle = h := by
    intro h f hf
    split at hf
    · split at hf
      · cases hf
        rfl
      · cases hf
    · cases hf
  rw [handle_eq hx, handle_eq hy]
  exact hab

/-- The lesser of what has been found and a new value. -/
def lesser (best : Option Int) (new : Option Int) : Option Int :=
  match new with
  | some v => some (match best with | some b => min b v | none => v)
  | none => best

/-- Taking the lesser along a list finds the least value that stands in it. -/
theorem foldl_lesser {α : Type} (f : α → Option Int) (l : List α) (best : Option Int) (v : Int) :
    l.foldl (fun best a => lesser best (f a)) best = some v ↔
      (best = some v ∨ ∃ a ∈ l, f a = some v) ∧ (∀ b, best = some b → v ≤ b) ∧ ∀ a ∈ l, ∀ b, f a = some b → v ≤ b := by
  induction l generalizing best with
  | nil =>
    cases best with
    | none => simp
    | some b =>
      simp
      omega
  | cons a l ih =>
    rw [List.foldl_cons, ih]
    simp only [List.mem_cons, exists_eq_or_imp, forall_eq_or_imp]
    cases f a with
    | none => simp [lesser]
    | some x =>
      cases best with
      | none => simp [lesser]
      | some b =>
        simp only [lesser, Option.some.injEq, forall_eq']
        grind

/-- The cap of a NEAR zone in force (R55). -/
def Zt.capOf (t : Zt) (h : ZoneHandle) : Option Int :=
  match t.zone h with
  | some z => if z.inForce = true ∧ z.relation = .near then some z.cap else none
  | none => none

theorem capOf_eq_some {t : Zt} {h : ZoneHandle} {v : Int} : t.capOf h = some v ↔
    ∃ z, t.zone h = some z ∧ z.state ≠ .suspended ∧ z.relation = .near ∧ z.cap = v := by
  unfold Zt.capOf
  cases t.zone h with
  | none => simp
  | some z => simp [inForce_iff, and_assoc]

theorem nearCap_eq (t : Zt) : t.nearCap = (handles 48).foldl (fun best h => lesser best (t.capOf h)) none := by
  unfold Zt.nearCap
  congr 1
  funext best h
  unfold Zt.capOf
  cases t.zone h with
  | none => rfl
  | some z =>
    dsimp only
    split <;> rfl

theorem relieving_eq (k : ChangeKind) : k.relieving = decide (k ∈ [ChangeKind.shift, .suspend, .drop, .expire]) := by
  cases k <;> rfl

/-- Settles O22: one report goes to CT and FC and one notice to CIF for each entry, and what the report holds of the zones in force and of
the near cap is what the table says. -/
theorem zoneReportsAreHandedOnTogether : Obligations.ZoneReportsAreHandedOnTogether := by
  unfold Obligations.ZoneReportsAreHandedOnTogether
  intro entries s r
  have report : s.zt.changeReport entries = r := by
    simp only [Zt.changeReport, relieving_eq, Zt.subjectName]
    rfl
  refine ⟨?_, fun f => ?_, forceZones_sorted s.zt, fun v => ?_⟩
  · unfold handReport
    rw [report]
    rfl
  · rw [mem_forceZones]
    constructor
    · rintro ⟨h, z, hz, hf, rfl⟩
      refine ⟨z, ?_, hf, rfl⟩
      show s.zt.slots[h] = { generation := s.zt.slots[h].generation, zone := some z }
      rw [← show s.zt.slots[h].zone = some z from hz]
    · rintro ⟨z, hslot, hf, e⟩
      refine ⟨f.handle, z, by rw [Zt.zone, hslot], hf, ?_⟩
      rw [hslot]
      exact e
  · rw [nearCap_eq, foldl_lesser]
    simp only [capOf_eq_some, mem_handles, true_and, reduceCtorEq, false_or, false_implies, implies_true, true_implies]
    constructor
    · rintro ⟨hex, hall⟩
      exact ⟨hex, fun h z hz hf hr => hall h z.cap ⟨z, hz, hf, hr, rfl⟩⟩
    · rintro ⟨hex, hall⟩
      refine ⟨hex, ?_⟩
      rintro h _ ⟨z, hz, hf, hr, rfl⟩
      exact hall h z hz hf hr

end Sys2Proof.Machine
end

section
/-! PROOF. Changes of slots made one after the other: the entries they make, the slots and the pending queue they leave, and the report
that is carried out of them. -/

namespace Sys2Proof.Machine

set_option Elab.async false

/-! ## A list of changes -/

/-- A change that is to be made of a slot. -/
structure SlotChange where
  handle : ZoneHandle
  cls : ZoneClass
  kind : ChangeKind
  after : Option Zone

/-- The change is made (R17, R42, R56). -/
def ZtWork.make (w : ZtWork) (c : SlotChange) : ZtWork := w.change c.handle c.cls c.kind c.after

/-- The changes are made in order. -/
def ZtWork.makeAll (w : ZtWork) (cs : List SlotChange) : ZtWork := cs.foldl ZtWork.make w

/-- The entry that a change makes on a table. -/
def SlotChange.entry (t : Zt) (c : SlotChange) : ChangeEntry :=
  { handle := c.handle, generation := t.slots[c.handle].generation, cls := c.cls, kind := c.kind, before := t.stateOf c.handle,
    after := c.after.map Zone.state }

/-- The change leaves its zone PENDING. -/
def SlotChange.pends (c : SlotChange) : Bool := decide (c.after.map Zone.state = some .pending)

/-- The change takes a handle out of the queue if it was in it. -/
def SlotChange.takes (h : ZoneHandle) (c : SlotChange) : Bool := decide (c.handle = h) && !c.pends

/-- The change puts its handle into the queue of a table. -/
def SlotChange.joins (t : Zt) (c : SlotChange) : Bool := c.pends && decide (t.stateOf c.handle ≠ some .pending)

@[simp] theorem ZtWork.makeAll_nil (w : ZtWork) : w.makeAll [] = w := rfl

@[simp] theorem ZtWork.makeAll_cons (w : ZtWork) (c : SlotChange) (cs : List SlotChange) :
    w.makeAll (c :: cs) = (w.make c).makeAll cs := rfl

theorem ZtWork.makeAll_append (w : ZtWork) (cs ds : List SlotChange) : w.makeAll (cs ++ ds) = (w.makeAll cs).makeAll ds :=
  List.foldl_append

/-- The queue holds the PENDING zones (R56). -/
def Zt.QueueMatches (t : Zt) : Prop := ∀ h, h ∈ t.queue ↔ t.stateOf h = some .pending

theorem stateOf_make_same (w : ZtWork) (c : SlotChange) : (w.make c).zt.stateOf c.handle = c.after.map Zone.state := by
  rw [Zt.stateOf_eq, ZtWork.make, ZtWork.zone_change_same]

theorem stateOf_make_other (w : ZtWork) {c : SlotChange} {h : ZoneHandle} (hh : h ≠ c.handle) :
    (w.make c).zt.stateOf h = w.zt.stateOf h := by
  rw [Zt.stateOf_eq, Zt.stateOf_eq, ZtWork.make, ZtWork.zone_change_other _ _ _ _ hh]

theorem slot_make_same (w : ZtWork) (c : SlotChange) :
    (w.make c).zt.slots[c.handle] = { w.zt.slots[c.handle] with zone := c.after } := Zt.slot_setZone_same _ _ _

theorem slot_make_other (w : ZtWork) {c : SlotChange} {h : ZoneHandle} (hh : h ≠ c.handle) :
    (w.make c).zt.slots[h] = w.zt.slots[h] := Zt.slot_setZone_other _ _ hh

theorem make_works (w : ZtWork) (c : SlotChange) : w.zt.Works (w.make c).zt := (w.change_only c.handle c.cls c.kind c.after).works

theorem queue_make (w : ZtWork) (c : SlotChange) : (w.make c).zt.queue =
    if c.pends = true then (if w.zt.stateOf c.handle = some .pending then w.zt.queue else w.zt.queue ++ [c.handle])
    else w.zt.queue.filter (· ≠ c.handle) := by
  simp only [ZtWork.make, ZtWork.change, SlotChange.pends, decide_eq_true_eq]

theorem make_queueMatches {w : ZtWork} (hq : w.zt.QueueMatches) (c : SlotChange) : (w.make c).zt.QueueMatches := by
  intro j
  rw [queue_make]
  by_cases hj : j = c.handle
  · subst hj
    rw [stateOf_make_same]
    by_cases hp : c.pends = true
    · have after := of_decide_eq_true hp
      rw [if_pos hp]
      split
      · next hw => simp [after, (hq c.handle).mpr hw]
      · simp [after]
    · have after : c.after.map Zone.state ≠ some .pending := fun k => hp (decide_eq_true k)
      rw [if_neg hp]
      simp [after]
  · rw [stateOf_make_other w hj, ← hq j]
    split
    · split <;> simp [hj]
    · simp [hj]

theorem makeAll_works (w : ZtWork) (cs : List SlotChange) : w.zt.Works (w.makeAll cs).zt := by
  induction cs generalizing w with
  | nil => exact .refl _
  | cons c cs ih => exact (make_works w c).trans (ih _)

theorem makeAll_overflowed (w : ZtWork) (cs : List SlotChange) : (w.makeAll cs).overflowed = w.overflowed := by
  induction cs generalizing w with
  | nil => rfl
  | cons c cs ih => exact (ih _).trans rfl

theorem makeAll_queueMatches {w : ZtWork} (hq : w.zt.QueueMatches) (cs : List SlotChange) : (w.makeAll cs).zt.QueueMatches := by
  induction cs generalizing w with
  | nil => exact hq
  | cons c cs ih => exact ih (make_queueMatches hq c)

theorem slot_makeAll_other (w : ZtWork) {cs : List SlotChange} {h : ZoneHandle} (hh : ∀ c ∈ cs, h ≠ c.handle) :
    (w.makeAll cs).zt.slots[h] = w.zt.slots[h] := by
  induction cs generalizing w with
  | nil => rfl
  | cons c cs ih =>
    obtain ⟨hc, hcs⟩ := List.forall_mem_cons.mp hh
    exact (ih _ hcs).trans (slot_make_other w hc)

/-- What a list of changes of different slots needs. -/
def Distinct (cs : List SlotChange) : Prop := (cs.map SlotChange.handle).Nodup

theorem distinct_cons {c : SlotChange} {cs : List SlotChange} :
    Distinct (c :: cs) ↔ (∀ d ∈ cs, d.handle ≠ c.handle) ∧ Distinct cs := by
  simp [Distinct]

theorem slot_makeAll_mem (w : ZtWork) {cs : List SlotChange} (hd : Distinct cs) {c : SlotChange} (hc : c ∈ cs) :
    (w.makeAll cs).zt.slots[c.handle] = { w.zt.slots[c.handle] with zone := c.after } := by
  induction cs generalizing w with
  | nil => cases hc
  | cons d cs ih =>
    obtain ⟨hother, hd⟩ := distinct_cons.mp hd
    obtain rfl | hc := List.mem_cons.mp hc
    · exact (slot_makeAll_other _ fun e he => (hother e he).symm).trans (slot_make_same w c)
    · refine (ih _ hd hc).trans ?_
      rw [slot_make_other w (hother c hc)]

theorem entry_make (w : ZtWork) {c d : SlotChange} (hd : d.handle ≠ c.handle) : d.entry (w.make c).zt = d.entry w.zt := by
  unfold SlotChange.entry
  rw [stateOf_make_other w hd, slot_make_other w hd]

/-- Changes of different slots make one entry each. -/
theorem entries_makeAll (w : ZtWork) {cs : List SlotChange} (hd : Distinct cs) :
    (w.makeAll cs).entries = w.entries ++ cs.map (SlotChange.entry w.zt) := by
  induction cs generalizing w with
  | nil => simp
  | cons c cs ih =>
    obtain ⟨hother, hd⟩ := distinct_cons.mp hd
    have made : (w.make c).entries = w.entries ++ [c.entry w.zt] := rfl
    rw [ZtWork.makeAll_cons, ih _ hd, List.map_congr_left fun d h => entry_make w (hother d h), made]
    simp

theorem joins_make (w : ZtWork) {c d : SlotChange} (hd : d.handle ≠ c.handle) : d.joins (w.make c).zt = d.joins w.zt := by
  unfold SlotChange.joins
  rw [stateOf_make_other w hd]

/-- The queue that changes of different slots leave: those stay that no change takes, and those join, in order, that were not PENDING. -/
theorem queue_makeAll {w : ZtWork} (hq : w.zt.QueueMatches) {cs : List SlotChange} (hd : Distinct cs) :
    (w.makeAll cs).zt.queue =
      w.zt.queue.filter (fun h => !cs.any (SlotChange.takes h)) ++ (cs.filter (SlotChange.joins w.zt)).map SlotChange.handle := by
  induction cs generalizing w with
  | nil =>
    refine (List.filter_eq_self.mpr fun h _ => rfl).symm.trans ?_
    rw [List.filter_nil, List.map_nil, List.append_nil]
    rfl
  | cons c cs ih =>
    obtain ⟨hother, hd⟩ := distinct_cons.mp hd
    have untaken : (!cs.any (SlotChange.takes c.handle)) = true := by
      rw [Bool.not_eq_true', List.any_eq_false]
      intro d hmem
      simp [SlotChange.takes, hother d hmem]
    rw [ZtWork.makeAll_cons, ih (make_queueMatches hq c) hd, List.filter_congr fun d h => joins_make w (hother d h), queue_make]
    by_cases hp : c.pends = true
    · have notTaken (h : ZoneHandle) : c.takes h = false := by rw [SlotChange.takes, hp, Bool.not_true, Bool.and_false]
      rw [if_pos hp]
      split
      · next hw =>
        have stays : c.joins w.zt = false := by simp [SlotChange.joins, hw]
        simp [notTaken, stays]
      · next hw =>
        have joins : c.joins w.zt = true := by simp [SlotChange.joins, hp, hw]
        simp [notTaken, joins, List.filter_append, untaken]
    · have takes (h : ZoneHandle) : c.takes h = decide (h = c.handle) := by
        simp [SlotChange.takes, hp, eq_comm]
      have leaves : c.joins w.zt = false := by simp [SlotChange.joins, hp]
      rw [if_neg hp, List.filter_filter]
      simp [leaves, takes, Bool.and_comm]

theorem filterMap_eq_of_mem {α β : Type} {f g : α → Option β} {l : List α} (h : ∀ a ∈ l, f a = g a) : l.filterMap f = l.filterMap g := by
  induction l with
  | nil => rfl
  | cons a l ih =>
    obtain ⟨ha, hl⟩ := List.forall_mem_cons.mp h
    rw [List.filterMap_cons, List.filterMap_cons, ha, ih hl]

/-- A pass along handles that makes, of each, the change that its zone as it was calls for. -/
theorem foldl_makeAll {f : ZtWork → ZoneHandle → ZtWork} {k : ZoneHandle → Option Zone → Option SlotChange} {P : ZtWork → Prop}
    (hk : ∀ h z c, k h z = some c → c.handle = h) (hP : ∀ w c, P w → P (w.make c))
    (hf : ∀ w h, P w → f w h = (k h (w.zt.zone h)).elim w w.make) {l : List ZoneHandle} (hl : l.Nodup) {w : ZtWork} (hw : P w) :
    l.foldl f w = w.makeAll (l.filterMap fun h => k h (w.zt.zone h)) := by
  induction l generalizing w with
  | nil => rfl
  | cons a l ih =>
    obtain ⟨ha, hl⟩ := List.nodup_cons.mp hl
    rw [List.foldl_cons, hf w a hw]
    cases hc : k a (w.zt.zone a) with
    | none =>
      rw [List.filterMap_cons_none (f := fun h => k h (w.zt.zone h)) hc]
      exact ih hl hw
    | some c =>
      rw [List.filterMap_cons_some (f := fun h => k h (w.zt.zone h)) hc, ZtWork.makeAll_cons]
      refine (ih hl (hP w c hw)).trans ?_
      congr 1
      have notChanged (h : ZoneHandle) (hh : h ∈ l) : (w.make c).zt.zone h = w.zt.zone h := by
        refine w.zone_change_other _ _ _ ?_
        rw [hk a _ c hc]
        exact fun e => ha (e ▸ hh)
      exact filterMap_eq_of_mem fun h hh => by rw [notChanged h hh]

/-- Such changes are of different slots. -/
theorem distinct_filterMap {k : ZoneHandle → Option SlotChange} (hk : ∀ h c, k h = some c → c.handle = h) {l : List ZoneHandle}
    (hl : l.Nodup) : Distinct (l.filterMap k) := by
  induction l with
  | nil => exact List.nodup_nil
  | cons a l ih =>
    obtain ⟨ha, hl⟩ := List.nodup_cons.mp hl
    cases hc : k a with
    | none =>
      rw [List.filterMap_cons_none hc]
      exact ih hl
    | some c =>
      rw [List.filterMap_cons_some hc]
      refine distinct_cons.mpr ⟨fun d hd e => ?_, ih hl⟩
      obtain ⟨h, hh, hkh⟩ := List.mem_filterMap.mp hd
      rw [hk h d hkh, hk a c hc] at e
      exact ha (e ▸ hh)

/-! ## Carrying changes out -/

/-- A change that leaves a zone PENDING leaves one that cannot be armed (R51). -/
def SlotChange.Waits (g : GeometryCfg) (c : SlotChange) : Prop :=
  ∀ z, c.after = some z → z.state = .pending → clearOf g.standoff z.clearance = false

theorem make_noneToArm {g : GeometryCfg} {w : ZtWork} (hw : w.zt.noneToArm g) {c : SlotChange} (hc : c.Waits g) :
    (w.make c).zt.noneToArm g := by
  intro h hh z hz hp
  by_cases hj : h = c.handle
  · subst hj
    exact hc z ((w.zone_change_same _ _ _ _).symm.trans hz) hp
  · rw [queue_make] at hh
    refine hw h ?_ z ((w.zone_change_other _ _ _ hj).symm.trans hz) hp
    split at hh
    · split at hh
      · exact hh
      · exact (List.mem_append.mp hh).resolve_right fun k => hj (List.mem_singleton.mp k)
    · exact (List.mem_filter.mp hh).1

theorem makeAll_noneToArm {g : GeometryCfg} {w : ZtWork} (hw : w.zt.noneToArm g) {cs : List SlotChange} (hc : ∀ c ∈ cs, c.Waits g) :
    (w.makeAll cs).zt.noneToArm g := by
  induction cs generalizing w with
  | nil => exact hw
  | cons c cs ih =>
    obtain ⟨hc, hcs⟩ := List.forall_mem_cons.mp hc
    exact ih (make_noneToArm hw hc) hcs

/-- Changes carried out from a table in which none can be armed are one report of their entries (R41). -/
theorem carryOut_makeAll {s : State} {t : Zt} (ht : t.noneToArm s.cs.record.geometry) {cs : List SlotChange} (hne : cs ≠ [])
    (hd : Distinct cs) (hc : ∀ c ∈ cs, c.Waits s.cs.record.geometry) :
    carryOut (t.work.makeAll cs) s =
      handReport (cs.map (SlotChange.entry t)) { s with zt := (t.work.makeAll cs).zt.setSubject s.cs.record.geometry } := by
  have entries : (t.work.makeAll cs).entries = cs.map (SlotChange.entry t) := entries_makeAll t.work hd
  have some_entry : (t.work.makeAll cs).entries ≠ [] := by
    rw [entries]
    exact fun e => hne (List.map_eq_nil_iff.mp e)
  rw [carryOut_idle (makeAll_noneToArm (w := t.work) ht hc) (makeAll_overflowed _ _) some_entry, entries]

theorem handReport_onlyZones (es : List ChangeEntry) (t : Zt) (s : State) : OnlyZones s (handReport es { s with zt := t }) := rfl

theorem ZoneTableSound.queueMatches {s : State} (hs : ZoneTableSound s) : s.zt.QueueMatches := hs.1.2.2

/-! ## One change -/

/-- The pending queue after one slot's change. -/
def Zt.queueAfter (t : Zt) (h : ZoneHandle) (after : Option Zone) : List ZoneHandle :=
  if after.map Zone.state = some .pending then (if t.stateOf h = some .pending then t.queue else t.queue ++ [h])
  else t.queue.filter (· ≠ h)

theorem queueAfter_of_left {t : Zt} {h : ZoneHandle} {after : Option Zone} (ha : after.map Zone.state ≠ some .pending) :
    t.queueAfter h after = t.queue.filter (· ≠ h) := if_neg ha

theorem queueAfter_of_joined {t : Zt} {h : ZoneHandle} {z : Zone} (ha : z.state = .pending) (hb : t.stateOf h ≠ some .pending) :
    t.queueAfter h (some z) = t.queue ++ [h] := by
  rw [Zt.queueAfter, if_pos (by rw [Option.map_some, ha]), if_neg hb]

theorem queueAfter_of_stayed {t : Zt} {h : ZoneHandle} {z : Zone} (ha : z.state = .pending) (hb : t.stateOf h = some .pending) :
    t.queueAfter h (some z) = t.queue := by
  rw [Zt.queueAfter, if_pos (by rw [Option.map_some, ha]), if_pos hb]

/-- A zone that neither was PENDING nor is leaves the queue as it was. -/
theorem queueAfter_of_neither {t : Zt} (hq : t.QueueMatches) {h : ZoneHandle} {after : Option Zone}
    (ha : after.map Zone.state ≠ some .pending) (hb : t.stateOf h ≠ some .pending) : t.queueAfter h after = t.queue := by
  rw [queueAfter_of_left ha]
  exact List.filter_eq_self.mpr fun j hj => decide_eq_true fun e => hb ((hq h).mp (e ▸ hj))

/-- A change of one slot, carried out from a table in which none can be armed (R41). -/
theorem carryOut_change {s : State} {t : Zt} (ht : t.noneToArm s.cs.record.geometry) (h : ZoneHandle) (cls : ZoneClass) (kind : ChangeKind)
    {after : Option Zone}
    (hc : ∀ z, after = some z → z.state = .pending → clearOf s.cs.record.geometry.standoff z.clearance = false) :
    carryOut (t.work.change h cls kind after) s =
      handReport [{ handle := h, generation := t.slots[h].generation, cls := cls, kind := kind, before := t.stateOf h,
                    after := after.map Zone.state }]
        { s with
          zt := ({ t with slots := put t.slots h { generation := t.slots[h].generation, zone := after }, queue := t.queueAfter h after }).setSubject
            s.cs.record.geometry } := by
  have one := carryOut_makeAll (cs := [⟨h, cls, kind, after⟩]) ht (List.cons_ne_nil _ _) (List.pairwise_singleton _ _)
    (List.forall_mem_singleton.mpr hc)
  have table : (t.work.make ⟨h, cls, kind, after⟩).zt =
      { t with slots := put t.slots h { generation := t.slots[h].generation, zone := after }, queue := t.queueAfter h after } := by
    have queue : (t.work.make ⟨h, cls, kind, after⟩).zt.queue = t.queueAfter h after := by
      rw [queue_make, Zt.queueAfter]
      simp only [SlotChange.pends, decide_eq_true_eq]
      rfl
    rw [← queue]
    rfl
  rw [ZtWork.makeAll_cons, ZtWork.makeAll_nil, table] at one
  exact one

/-- The same in a sound table, for a zone named with its generation. -/
theorem carryOut_named {s : State} (hs : ZoneTableSound s) {handle gen : Byte} {h : ZoneHandle} {z : Zone} (hn : NamesZone s handle gen h z)
    (cls : ZoneClass) (kind : ChangeKind) {after : Option Zone}
    (hc : ∀ z, after = some z → z.state = .pending → clearOf s.cs.record.geometry.standoff z.clearance = false) :
    carryOut (s.zt.work.change h cls kind after) s =
      afterChange s h { generation := gen, zone := after } (s.zt.queueAfter h after) cls kind := by
  rw [carryOut_change hs.noneToArm h cls kind hc, hn.generation]
  rfl

/-- The state byte of the slot that one change has replaced. -/
theorem stateByte_afterChange (s : State) (h : ZoneHandle) (gen : Generation) (z : Zone) (queue : List ZoneHandle) (cls : ZoneClass)
    (kind : ChangeKind) :
    (afterChange s h { generation := gen, zone := some z } queue cls kind).zt.stateByte h = u8 (slotStateCode (some z.state)) := by
  have slot : (afterChange s h { generation := gen, zone := some z } queue cls kind).zt.zone h = some z := by
    unfold afterChange
    rw [handReport_zt, Zt.setSubject_zone, Zt.zone, put_same]
  exact stateByte_of_zone slot

end Sys2Proof.Machine
end
